-- ==== Sys2Proof/Word.lean ====
section
/-!
DEFINITION. The data types of KZN-CORE: bytes, command and register words, and the fixed-size byte
strings of the spec (00_scope.md R11, R12; 20_memory.md R66). A byte string is indexed from 0, and
index 0 is the byte a host writes first.
-/

namespace Sys2Proof

/-- A byte, an unsigned integer 0..255 (00_scope.md R11); bit 7 is its most significant bit (R12). -/
abbrev Byte := BitVec 8

/-- A 32-bit command word or status register value (30_encoding.md R90, 10_state.md R33). -/
abbrev Word := BitVec 32

/-- A 16-byte block, D0's Block128 (00_scope.md R8 `BLOCK`, R16). -/
abbrev Block := Vector Byte 16

/-- A 32-byte master key, D0's Block256 (00_scope.md R8 `KEYLEN`, R16). -/
abbrev Key := Vector Byte 32

/-- Ten round keys, numbered 1..10 in the spec; entry `i - 1` here is round key `i`
(00_scope.md R8 `NKEYS`, 10_state.md R24). -/
abbrev RoundKeys := Vector Block 10

/-- `n` bytes of 0x00 (00_scope.md R11). -/
def zeros (n : Nat) : List Byte := List.replicate n 0

/-- The unsigned integer a byte string denotes with index 0 most significant (00_scope.md R13). -/
def be : List Byte → Nat
  | [] => 0
  | b :: bs => b.toNat * 256 ^ bs.length + be bs

end Sys2Proof
end

