-- ==== Sys2Proof/Config.lean ====
section
/-!
DEFINITION. What one build of KZN-CORE fixes: the open parameters of 00_scope.md R10 with their
defaults, and the constants of R8. The lookup tables of R9 stand in Machine/Tables.lean.
-/

namespace Sys2Proof

/-- Which reading of D0's unpadding scan is built (00_scope.md R10 `UNPAD_RULE`,
43_mode_common.md R182). -/
inductive UnpadRule where
  /-- Cut at the highest index that holds 0x80, whatever follows it (the default). -/
  | lastAnywhere
  /-- Skip trailing 0x00 bytes and cut only if the byte before them is 0x80. -/
  | zerosThenMark
deriving DecidableEq, Repr

/-- The parameters of a build (00_scope.md R10). They are constants of the device: reset does not
change them (10_state.md R39) and no host operation writes them. -/
structure Build where
  /-- `MMAX`: the capacity of IBUF in bytes. -/
  mmax : Nat
  /-- `GMAX`: the capacity of GAMMA in bytes. -/
  gmax : Nat
  /-- `UNPAD_RULE`. -/
  unpadRule : UnpadRule
deriving DecidableEq, Repr

/-- `OMAX`, the capacity of OBUF, "fixed at `MMAX + 16`" (00_scope.md R10). -/
def Build.omax (b : Build) : Nat := b.mmax + 16

/-- The constraints of 00_scope.md R10 on the parameters (`MMAX >= 32` follows from the first two),
and (DEDUCED, log entry 7; safe) that the longest OBUF length fits the 32-bit register `OLEN`. -/
abbrev Build.Valid (b : Build) : Prop := 32 ≤ b.gmax ∧ b.gmax ≤ b.mmax ∧ b.omax < 2 ^ 32

/-- The defaults of 00_scope.md R10, which every test vector of the spec uses. -/
def Config.defaultBuild : Build := { mmax := 4096, gmax := 64, unpadRule := .lastAnywhere }

/-- `PAD_MARK` (00_scope.md R8). -/
def Config.padMark : Byte := 0x80

/-- `MAC_RED`, the constant of the 128-bit doubling (00_scope.md R8). -/
def Config.macRed : Byte := 0x87

/-- `SEG_DEFAULT` (00_scope.md R8). -/
def Config.segDefault : Nat := 16

/-- `TAG_DEFAULT` (00_scope.md R8). -/
def Config.tagDefault : Nat := 8

end Sys2Proof
end

