-- ==== Sys2Proof/Syntax.lean ====
section
/-!
DEFINITION. The eighteen commands of KZN-CORE, one constructor for each row of the opcode table
(30_encoding.md R95), in the table's order.
-/

namespace Sys2Proof

/-- The six modes, in the order of their codes (30_encoding.md R96, 10_state.md R28). -/
inductive Mode where
  | ecb
  | ctr
  | ofb
  | cbc
  | cfb
  | mac
deriving DecidableEq, Repr

/-- A decoded command. The operands are the fields `A` and `N` of the word, which are raw here:
`Instr.wf` states their ranges. Fields that a format reserves are not operands. -/
inductive Instr where
  /-- `NOP`, 47_host_data_and_system.md R290. -/
  | nop
  /-- `LDK`, load the master key, R291. -/
  | ldk
  /-- `LDB`, load the working block, R292. -/
  | ldb
  /-- `STB`, store the working block, R293. -/
  | stb
  /-- `STRK i`, store round key `i`, R294. -/
  | strk (i : BitVec 8)
  /-- `STG`, store the gamma, R295. -/
  | stg
  /-- `STSK j`, store Mac subkey `j`, R296. -/
  | stsk (j : BitVec 8)
  /-- `SUB`, substitute the working block, 40_galois_transform.md R134. -/
  | sub
  /-- `ISUB`, R135. -/
  | isub
  /-- `LIN`, linear transform of the working block, R136. -/
  | lin
  /-- `ILIN`, R137. -/
  | ilin
  /-- `KEXP`, derive the round keys, 41_key_schedule.md R154. -/
  | kexp
  /-- `ENCB`, encrypt the working block, 42_block_cipher.md R168. -/
  | encb
  /-- `DECB`, decrypt the working block, R169. -/
  | decb
  /-- `MINIT mode, n`, construct a mode instance, 43_mode_common.md R184. -/
  | minit (mode : Mode) (n : BitVec 16)
  /-- `MCFG`, configure the gamma, R185. -/
  | mcfg
  /-- `MENC`, encrypt one whole message, R187. -/
  | menc
  /-- `MDEC`, decrypt one whole message, R188. -/
  | mdec
deriving DecidableEq, Repr

end Sys2Proof
end

