-- ==== Sys2Proof/WellFormed.lean ====
section
/-!
DEFINITION. Which operands a command may carry: the operand conditions of the opcode table
(30_encoding.md R92, R93, R95).
-/

namespace Sys2Proof

/-- The operand conditions of 30_encoding.md R95: `STRK` has 1..10, `STSK` has 1..2, `MINIT` has a
size 0..16 for Cfb and Mac and 0 for the other modes; the format `Z` commands have none. -/
def Instr.wf : Instr → Bool
  | .strk i => decide (1 ≤ i.toNat ∧ i.toNat ≤ 10)
  | .stsk j => decide (1 ≤ j.toNat ∧ j.toNat ≤ 2)
  | .minit .cfb n => decide (n.toNat ≤ 16)
  | .minit .mac n => decide (n.toNat ≤ 16)
  | .minit .ecb n => decide (n = 0)
  | .minit .ctr n => decide (n = 0)
  | .minit .ofb n => decide (n = 0)
  | .minit .cbc n => decide (n = 0)
  | .nop => true
  | .ldk => true
  | .ldb => true
  | .stb => true
  | .stg => true
  | .sub => true
  | .isub => true
  | .lin => true
  | .ilin => true
  | .kexp => true
  | .encb => true
  | .decb => true
  | .mcfg => true
  | .menc => true
  | .mdec => true

end Sys2Proof
end

