-- ==== Sys2Proof/Decode.lean ====
section
/-!
DEFINITION. The decoder, total on all 2^32 words (30_encoding.md R99), which rejects by name, and
after it the encoder, written from the same tables (R90 to R97).
-/

namespace Sys2Proof

/-- Why a word is illegal (30_encoding.md R97). The device latches `IllegalCommand` for each of them
alike; the names are the model's own (log entry 14). -/
inductive DecodeError where
  /-- `OPC` is not one of the 18 values of R95. -/
  | unassignedOpcode
  /-- A field that the format or the mode reserves is not 0. -/
  | reservedField
  /-- The index of `STRK` or `STSK` is out of its range. -/
  | indexOutOfRange
  /-- The mode code of `MINIT` is above 5. -/
  | modeOutOfRange
  /-- The size of `MINIT` for Cfb or Mac is above 16. -/
  | sizeOutOfRange
deriving DecidableEq, Repr

/-- Field `OPC`, bits 31:24 (30_encoding.md R90). -/
def opcField (w : Word) : BitVec 8 := w.extractLsb' 24 8

/-- Field `A`, bits 23:16 (30_encoding.md R90, R94). -/
def aField (w : Word) : BitVec 8 := w.extractLsb' 16 8

/-- Field `N`, bits 15:0 (30_encoding.md R90, R94). -/
def nField (w : Word) : BitVec 16 := w.extractLsb' 0 16

/-- The mode codes of 30_encoding.md R96, as numbers. -/
def Mode.code : Mode → Nat
  | .ecb => 0
  | .ctr => 1
  | .ofb => 2
  | .cbc => 3
  | .cfb => 4
  | .mac => 5

/-- The mode of a code, if it is 0..5 (30_encoding.md R96). -/
def modeOfCode : Nat → Option Mode
  | 0 => some .ecb
  | 1 => some .ctr
  | 2 => some .ofb
  | 3 => some .cbc
  | 4 => some .cfb
  | 5 => some .mac
  | _ => none

/-- Format `Z`: `A` and `N` are reserved and must be 0 (30_encoding.md R91). -/
def formatZ (i : Instr) (a : BitVec 8) (n : BitVec 16) : Except DecodeError Instr :=
  if a = 0 ∧ n = 0 then .ok i else .error .reservedField

/-- Format `I`: `A` is an index that `i` must accept, `N` is reserved (30_encoding.md R92). -/
def formatI (i : Instr) (n : BitVec 16) : Except DecodeError Instr :=
  if n = 0 then (if i.wf then .ok i else .error .indexOutOfRange) else .error .reservedField

/-- What is wrong with a size that the mode does not accept: Cfb and Mac take a size, the other modes
reserve the field (30_encoding.md R93). -/
def sizeError : Mode → DecodeError
  | .cfb => .sizeOutOfRange
  | .mac => .sizeOutOfRange
  | .ecb => .reservedField
  | .ctr => .reservedField
  | .ofb => .reservedField
  | .cbc => .reservedField

/-- Format `M`: `A` is a mode code, `N` its size parameter (30_encoding.md R93). -/
def formatM (a : BitVec 8) (n : BitVec 16) : Except DecodeError Instr :=
  match modeOfCode a.toNat with
  | none => .error .modeOutOfRange
  | some m => if (Instr.minit m n).wf then .ok (.minit m n) else .error (sizeError m)

/-- The opcode map of 30_encoding.md R95 over the three fields of a word. -/
def decodeFields (opc : Nat) (a : BitVec 8) (n : BitVec 16) : Except DecodeError Instr :=
  match opc with
  | 0x00 => formatZ .nop a n
  | 0x01 => formatZ .ldk a n
  | 0x02 => formatZ .ldb a n
  | 0x03 => formatZ .stb a n
  | 0x04 => formatI (.strk a) n
  | 0x05 => formatZ .stg a n
  | 0x06 => formatI (.stsk a) n
  | 0x10 => formatZ .sub a n
  | 0x11 => formatZ .isub a n
  | 0x12 => formatZ .lin a n
  | 0x13 => formatZ .ilin a n
  | 0x20 => formatZ .kexp a n
  | 0x28 => formatZ .encb a n
  | 0x29 => formatZ .decb a n
  | 0x30 => formatM a n
  | 0x31 => formatZ .mcfg a n
  | 0x32 => formatZ .menc a n
  | 0x33 => formatZ .mdec a n
  | _ => .error .unassignedOpcode

/-- The decoder: a command with its operands, or the verdict "illegal" with its reason
(30_encoding.md R97, R99). -/
def decode (w : Word) : Except DecodeError Instr :=
  decodeFields (opcField w).toNat (aField w) (nField w)

/-- `w == OPC * 2^24 + A * 2^16 + N` (30_encoding.md R90). -/
def commandWord (opc : BitVec 8) (a : BitVec 8) (n : BitVec 16) : Word := opc ++ a ++ n

/-- The opcode of each command (30_encoding.md R95, column `OPC`). -/
def opcode : Instr → BitVec 8
  | .nop => 0x00
  | .ldk => 0x01
  | .ldb => 0x02
  | .stb => 0x03
  | .strk _ => 0x04
  | .stg => 0x05
  | .stsk _ => 0x06
  | .sub => 0x10
  | .isub => 0x11
  | .lin => 0x12
  | .ilin => 0x13
  | .kexp => 0x20
  | .encb => 0x28
  | .decb => 0x29
  | .minit _ _ => 0x30
  | .mcfg => 0x31
  | .menc => 0x32
  | .mdec => 0x33

/-- What each command holds in field `A` (30_encoding.md R91 to R93). -/
def operandA : Instr → BitVec 8
  | .strk i => i
  | .stsk j => j
  | .minit m _ => BitVec.ofNat 8 m.code
  | .nop => 0
  | .ldk => 0
  | .ldb => 0
  | .stb => 0
  | .stg => 0
  | .sub => 0
  | .isub => 0
  | .lin => 0
  | .ilin => 0
  | .kexp => 0
  | .encb => 0
  | .decb => 0
  | .mcfg => 0
  | .menc => 0
  | .mdec => 0

/-- What each command holds in field `N` (30_encoding.md R91 to R93). -/
def operandN : Instr → BitVec 16
  | .minit _ n => n
  | .nop => 0
  | .ldk => 0
  | .ldb => 0
  | .stb => 0
  | .strk _ => 0
  | .stg => 0
  | .stsk _ => 0
  | .sub => 0
  | .isub => 0
  | .lin => 0
  | .ilin => 0
  | .kexp => 0
  | .encb => 0
  | .decb => 0
  | .mcfg => 0
  | .menc => 0
  | .mdec => 0

/-- The encoder: the word of a command (30_encoding.md R90, R95). -/
def encode (i : Instr) : Word := commandWord (opcode i) (operandA i) (operandN i)

/-- The word the opcode table's bits give: `nbits` bits of `w`, every bit above them 0. -/
def tableWord (nbits w : Nat) : Word := BitVec.ofNat 32 (w % 2 ^ nbits)

/-- What the decoder reads from an instruction of the opcode table. A command word passes between
host and device as a whole number and has no byte order (20_memory.md R68). -/
def decodeTableWord (nbits w : Nat) : Option Instr :=
  match decode (tableWord nbits w) with
  | .ok i => some i
  | .error _ => none

end Sys2Proof
end

