-- ==== Sys2Proof/Machine/State.lean ====
section
/-!
DEFINITION. The whole state of KZN-CORE (10_state.md R20) as plain data, the host's side of the
interface, and the state right after reset (R42).
-/

namespace Sys2Proof.Machine

/-- The seven fault codes a device can latch in `STATUS.FAULT` (60_exceptions.md R320). A latched
fault is a state of the device, not a stop of the model. -/
inductive FaultCode where
  /-- Code 1: the gamma is too short, or (Cfb) not whole segments (R321). -/
  | configurationError
  /-- Code 2: the operation does not exist in the instance's mode (R322). -/
  | unsupportedOperation
  /-- Code 3: the input length does not fit the command (R323). -/
  | contractViolation
  /-- Code 4: a register nothing has written would be read (R324). -/
  | notReady
  /-- Code 5: the word is not a legal encoding (R325). -/
  | illegalCommand
  /-- Code 6: a buffer's capacity is exceeded (R326). -/
  | capacityExceeded
  /-- Code 7: a case D0 leaves undetermined (R327). -/
  | refused
deriving DecidableEq, Repr

/-- Why the model stops. KZN-CORE never stops: every failure of the spec is a latched code and a next
state (60_exceptions.md R330, R331), so this type is empty (log entry 12). Nobody raises it; safe. -/
inductive Fault where
deriving DecidableEq, Repr

/-- Why the model gives an instruction no meaning. -/
inductive Refusal where
  /-- Raised by an arm of `exec` whose instruction has no meaning yet; no arm raises it now. Safe. -/
  | notModelled (mnemonic : String)
deriving DecidableEq, Repr

/-- One byte address space: the bytes that exist, each with its address, lowest address first.
`IBUF` and `OBUF` are one each (20_memory.md R60). -/
abbrev Memory := List Host.Cell

/-- What an address that is not listed reads as: no value. "An address at or beyond the present
length of a buffer does not exist" (20_memory.md R61; log entry 8). -/
def Memory.unlisted : Option Byte := none

/-- The canonical form: the listed addresses are 0, 1, ..., length - 1, strictly rising and without a
hole. An unlisted address has no value, so no entry equals what an unlisted address reads as. -/
def Memory.wf (m : Memory) : Bool := m.map Prod.fst == List.range m.length

/-- The seven control and status registers (10_state.md R33). The host has no move that reads any
other number (R40), so the type has no other member. -/
inductive Csr where
  | status
  | modecfg
  | ilen
  | olen
  | glen
  | capm
  | capg
deriving DecidableEq, Repr

/-- The four host operations (20_memory.md R62 to R65). -/
inductive HostOp where
  /-- `HostLoad(m)`, R62. -/
  | load (m : List Byte)
  /-- `HostCmd(w)`, R63. -/
  | cmd (w : Word)
  /-- `HostStore()`, R64. -/
  | store
  /-- `HostCsrRead(n)`, R65. -/
  | csrRead (c : Csr)
deriving DecidableEq, Repr

/-- What can happen to KZN-CORE from outside between two steps. -/
inductive Event where
  /-- The host issues one operation (00_scope.md R17). -/
  | host (op : HostOp)
  /-- Power-on or the reset line (70_reset_and_hazards.md R360). -/
  | reset
deriving DecidableEq, Repr

/-- What a host operation returned (20_memory.md R64, R65). -/
inductive Reply where
  /-- The byte string `HostStore` returned. -/
  | bytes (m : List Byte)
  /-- The word `HostCsrRead` returned. -/
  | word (w : Word)
deriving DecidableEq, Repr

/-- The state of KZN-CORE: the items of 10_state.md R20, the parameters of the build, and two fields
of the model's own that stand for the host's side (log entry 4). -/
structure State where
  /-- `BLK`, the working block (R21). -/
  blk : Block
  /-- `BLKV`, `BLK` has been written since reset (R22). -/
  blkv : Bool
  /-- `MKEY`, the master key (R23). -/
  mkey : Key
  /-- `KEYV`, `MKEY` has been written since reset (R23). -/
  keyv : Bool
  /-- `RK[1..10]`, the round keys of the cipher context (R24). -/
  rk : RoundKeys
  /-- `RKV`, `RK` was derived from the present `MKEY` (R24). -/
  rkv : Bool
  /-- `MRK[1..10]`, the mode instance's own round keys (R25). -/
  mrk : RoundKeys
  /-- `SK1`, the first Mac subkey (R26). -/
  sk1 : Block
  /-- `SK2`, the second Mac subkey (R26). -/
  sk2 : Block
  /-- `GAMMA`, the feedback state; its length is `GLEN` (R27). -/
  gamma : List Byte
  /-- `MODE`, which of the six modes the instance is (R28). -/
  mode : Mode
  /-- `SEG`, the Cfb segment size in bytes (R28). -/
  seg : Nat
  /-- `TAGLEN`, the Mac tag length in bytes (R28). -/
  taglen : Nat
  /-- `MIV`, a mode instance exists (R28). -/
  miv : Bool
  /-- `IBUF`, the input buffer; its length is `ILEN` (R29). -/
  ibuf : Memory
  /-- `OBUF`, the output buffer; its length is `OLEN` (R30). -/
  obuf : Memory
  /-- `FAULT`, the latched fault code; `none` is code 0 (60_exceptions.md R320). -/
  fault : Option FaultCode
  /-- The parameters of the build; `CAPM` and `CAPG` show two of them (R39; log entry 6). -/
  build : Build
  /-- What happens next, oldest first: the host's program and the reset line (log entry 4). -/
  inputs : List Event
  /-- What `HostStore` and `HostCsrRead` returned, oldest first (log entry 4). -/
  replies : List Reply
deriving DecidableEq, Repr

/-- `ILEN` (10_state.md R29). -/
def State.ilen (s : State) : Nat := s.ibuf.length

/-- `OLEN` (10_state.md R30). -/
def State.olen (s : State) : Nat := s.obuf.length

/-- `GLEN` (10_state.md R27). -/
def State.glen (s : State) : Nat := s.gamma.length

/-- The block of sixteen zero bytes, `zeros(16)` (00_scope.md R11). -/
def zeroBlock : Block := Vector.replicate 16 0

/-- The state after reset of a device of a given build (10_state.md R42). `BLK`, `MKEY`, `RK`, `MRK`,
`SK1` and `SK2` hold "no value" there: the zeros are a DESIGN CHOICE (log entry 1; unsafe). -/
def State.resetOf (b : Build) : State where
  blk := zeroBlock
  blkv := false
  mkey := Vector.replicate 32 0
  keyv := false
  rk := Vector.replicate 10 zeroBlock
  rkv := false
  mrk := Vector.replicate 10 zeroBlock
  sk1 := zeroBlock
  sk2 := zeroBlock
  gamma := []
  mode := .ecb
  seg := 16
  taglen := 8
  miv := false
  ibuf := []
  obuf := []
  fault := none
  build := b
  inputs := []
  replies := []

/-- The machine right after reset, with the default parameters (00_scope.md R10, 10_state.md R42). -/
def State.reset : State := State.resetOf Config.defaultBuild

end Sys2Proof.Machine
end

