-- ==== Sys2Proof/Machine/Ops.lean ====
section
/-!
DEFINITION. The named operations every meaning is built from: byte strings and fixed-size blocks, the
two buffers, the registers' updates, taking a fault (60_exceptions.md R330), and running a command's
checks before its writes (30_encoding.md R102). The only return from a fault is reset (R332), which
stands beside it.
-/

namespace Sys2Proof.Machine

/-- The first `n` bytes of a byte string as a register of `n` bytes. Every use has at least `n` bytes;
zeros fill a shorter string only so that the function is total. -/
def fixedOf (n : Nat) (l : List Byte) : Vector Byte n :=
  ⟨⟨(l ++ zeros n).take n⟩, by simp [zeros]⟩

/-- A 16-byte slice as a block. -/
def blockOf (l : List Byte) : Block := fixedOf 16 l

/-- Exclusive-or byte by byte at equal indexes (00_scope.md R13); where one string is longer, its
first bytes are used ("XORed with a truncated keystream", 44_modes_ecb_ctr_ofb.md R213). -/
def xorBytes (a b : List Byte) : List Byte := List.zipWith (· ^^^ ·) a b

/-- Exclusive-or of two blocks (00_scope.md R13). -/
def xorBlock (a b : Block) : Block := blockOf (xorBytes a.toList b.toList)

/-- `chunks s m` for a bound on the number of pieces. -/
def chunksUpTo (s : Nat) : Nat → List Byte → List (List Byte)
  | 0, _ => []
  | _ + 1, [] => []
  | k + 1, b :: bs => (b :: bs).take s :: chunksUpTo s k ((b :: bs).drop s)

/-- The pieces `m[sk .. sk+s)` of a message, in order; the last is shorter when `s` does not divide the
length (the `while` loops of 44_modes_ecb_ctr_ofb.md R213). The empty message has no piece. -/
def chunks (s : Nat) (m : List Byte) : List (List Byte) := chunksUpTo s m.length m

/-- A message as the contents of a buffer: byte `i` at address `i` (20_memory.md R66). -/
def Memory.ofBytes (m : List Byte) : Memory := (List.range m.length).zip m

/-- The contents of a buffer as a byte string (20_memory.md R66). -/
def Memory.bytes (m : Memory) : List Byte := m.map Prod.snd

/-- The byte at an address (20_memory.md R61). -/
def Memory.read (m : Memory) (a : Nat) : Option Byte :=
  match m.find? (fun c => c.1 == a) with
  | some c => some c.2
  | none => Memory.unlisted

/-- The message in the input buffer, `IBUF[0..ILEN)`. -/
def State.message (s : State) : List Byte := s.ibuf.bytes

/-- `IBUF[0..len(m)) <- m` and `ILEN <- len(m)` together (20_memory.md R62). -/
def State.setInput (s : State) (m : List Byte) : State := { s with ibuf := Memory.ofBytes m }

/-- `OBUF[0..len(m)) <- m` and `OLEN <- len(m)` together, replacing all previous contents
(10_state.md R30, 70_reset_and_hazards.md R369). -/
def State.output (s : State) (m : List Byte) : State := { s with obuf := Memory.ofBytes m }

/-- `BLK <- b`. -/
def State.setBlk (s : State) (b : Block) : State := { s with blk := b }

/-- `BLK <- b` and `BLKV <- 1` (47_host_data_and_system.md R292). -/
def State.loadBlk (s : State) (b : Block) : State := { s with blk := b, blkv := true }

/-- `MKEY <- k`, `KEYV <- 1`, `RKV <- 0` (47_host_data_and_system.md R291). -/
def State.loadKey (s : State) (k : Key) : State := { s with mkey := k, keyv := true, rkv := false }

/-- `RK[1..10] <- ks`, `RKV <- 1` (41_key_schedule.md R154). -/
def State.setRoundKeys (s : State) (ks : RoundKeys) : State := { s with rk := ks, rkv := true }

/-- `GAMMA <- g`, `GLEN <- len(g)` (43_mode_common.md R185). -/
def State.setGamma (s : State) (g : List Byte) : State := { s with gamma := g }

/-- `SK1 <- k.1`, `SK2 <- k.2` (43_mode_common.md R184). -/
def State.setSubkeys (s : State) (k : Block × Block) : State := { s with sk1 := k.1, sk2 := k.2 }

/-- The part of `MINIT` that every mode has: `MODE`, `MRK`, `SEG`, `TAGLEN`, the empty gamma and
`MIV <- 1` (43_mode_common.md R184). -/
def State.newInstance (s : State) (m : Mode) (ks : RoundKeys) (seg taglen : Nat) : State :=
  { s with mode := m, mrk := ks, seg := seg, taglen := taglen, gamma := [], miv := true }

/-- The host has issued the next event: it is no longer to come. -/
def State.setInputs (s : State) (es : List Event) : State := { s with inputs := es }

/-- A value returned to the host (70_reset_and_hazards.md R370). -/
def State.reply (s : State) (r : Reply) : State := { s with replies := s.replies ++ [r] }

/-- The device has a latched fault, `FAULT != 0` (60_exceptions.md R331). -/
def State.faulted (s : State) : Bool := s.fault.isSome

/-- Taking a fault, `raise F`: `STATUS.FAULT <- code(F)` and no other state changes
(60_exceptions.md R330, 00_scope.md R14). -/
def State.raise (s : State) (f : FaultCode) : State := { s with fault := some f }

/-- Reset, the only return from a fault (60_exceptions.md R332): the device is in the state of
10_state.md R42, its parameters and the host's side are as they were. The zeros in the guarded
registers are the model's (log entry 2; unsafe). -/
def State.resetDevice (s : State) : State :=
  { State.resetOf s.build with inputs := s.inputs, replies := s.replies }

/-- One check of a command: what must hold, and the fault raised when it does not. -/
structure Check where
  /-- The condition. -/
  holds : Bool
  /-- The fault of `else raise ...`. -/
  code : FaultCode
deriving DecidableEq, Repr

/-- The fault of the first check that fails, in the order listed (60_exceptions.md R329). -/
def firstFailure : List Check → Option FaultCode
  | [] => none
  | c :: cs => if c.holds then firstFailure cs else some c.code

/-- Running a decoded command. A faulted device ignores it (60_exceptions.md R331); otherwise the
checks run in order, the first that fails is raised and nothing else is written, and only when all
pass does the effect happen, all at once (30_encoding.md R102, 00_scope.md R14). -/
def command (s : State) (checks : List Check) (effect : State) :
    Host.Outcome State Fault Refusal :=
  if s.faulted then .next s
  else match firstFailure checks with
    | some f => .next (s.raise f)
    | none => .next effect

end Sys2Proof.Machine
end

