-- ==== Sys2Proof/Machine/Operands.lean ====
section
/-!
DEFINITION. How a command's operands select what it works on: the two defaulting sizes
(30_encoding.md R94), the numbered round keys and subkeys, and the halves of the master key.
-/

namespace Sys2Proof.Machine

/-- `SEG` of a new instance: for Cfb `(N == 0) ? 16 : N`, for every other mode 16
(43_mode_common.md R184, 30_encoding.md R94). -/
def segOperand : Mode → BitVec 16 → Nat
  | .cfb, n => if n = 0 then Config.segDefault else n.toNat
  | .ecb, _ => Config.segDefault
  | .ctr, _ => Config.segDefault
  | .ofb, _ => Config.segDefault
  | .cbc, _ => Config.segDefault
  | .mac, _ => Config.segDefault

/-- `TAGLEN` of a new instance: for Mac `(N == 0) ? 8 : N`, for every other mode 8
(43_mode_common.md R184, 30_encoding.md R94). -/
def tagOperand : Mode → BitVec 16 → Nat
  | .mac, n => if n = 0 then Config.tagDefault else n.toNat
  | .ecb, _ => Config.tagDefault
  | .ctr, _ => Config.tagDefault
  | .ofb, _ => Config.tagDefault
  | .cbc, _ => Config.tagDefault
  | .cfb, _ => Config.tagDefault

/-- Round key number `i` of ten, 1..10 (10_state.md R24). Other numbers select nothing: the operand
check of `STRK` comes first, so the zero block is never used. -/
def roundKey (ks : RoundKeys) (i : Nat) : Block :=
  match i with
  | 0 => zeroBlock
  | k + 1 => ks.toList.getD k zeroBlock

/-- Mac subkey `j`: `(A == 1) ? SK1 : SK2` (47_host_data_and_system.md R296). -/
def subkey (s : State) (j : BitVec 8) : Block := if j = 1 then s.sk1 else s.sk2

/-- The first half of the master key, `MKEY[0..16)` (20_memory.md R66). -/
def keyLeft (k : Key) : Block := blockOf (k.toList.take 16)

/-- The second half of the master key, `MKEY[16..32)` (20_memory.md R66). -/
def keyRight (k : Key) : Block := blockOf (k.toList.drop 16)

end Sys2Proof.Machine
end

