-- ==== Sys2Proof/Machine/Flags.lean ====
section
/-!
DEFINITION. The flag-like state of KZN-CORE (10_state.md R32): the checks on the four validity bits,
and the seven status registers, which are views of the state (R33 to R39).
-/

namespace Sys2Proof.Machine

/-- `KEYV == 1`, else `NotReady` (60_exceptions.md R324). -/
def needKey (s : State) : Check := { holds := s.keyv, code := .notReady }

/-- `BLKV == 1`, else `NotReady` (60_exceptions.md R324). -/
def needBlk (s : State) : Check := { holds := s.blkv, code := .notReady }

/-- `RKV == 1`, else `NotReady` (60_exceptions.md R324). -/
def needRoundKeys (s : State) : Check := { holds := s.rkv, code := .notReady }

/-- `MIV == 1`, else `NotReady` (60_exceptions.md R324). -/
def needInstance (s : State) : Check := { holds := s.miv, code := .notReady }

/-- The operand conditions of a command, else `IllegalCommand` (47_host_data_and_system.md R294, R296,
43_mode_common.md R184, "(decode)"). The decoder has already made this check for every word. -/
def needOperands (i : Instr) : Check := { holds := i.wf, code := .illegalCommand }

/-- The codes of 60_exceptions.md R320. -/
def FaultCode.code : FaultCode → BitVec 4
  | .configurationError => 1
  | .unsupportedOperation => 2
  | .contractViolation => 3
  | .notReady => 4
  | .illegalCommand => 5
  | .capacityExceeded => 6
  | .refused => 7

/-- Field `STATUS.FAULT`: 0 is no fault (10_state.md R34). -/
def faultField : Option FaultCode → BitVec 4
  | none => 0
  | some f => f.code

/-- CSR 0, `STATUS` (10_state.md R34). -/
def statusWord (s : State) : Word :=
  0#24 ++ BitVec.ofBool s.miv ++ BitVec.ofBool s.rkv ++ BitVec.ofBool s.blkv ++
    BitVec.ofBool s.keyv ++ faultField s.fault

/-- CSR 1, `MODECFG` (10_state.md R35). -/
def modecfgWord (s : State) : Word :=
  0#11 ++ BitVec.ofNat 5 s.taglen ++ 0#3 ++ BitVec.ofNat 5 s.seg ++ 0#5 ++
    BitVec.ofNat 3 s.mode.code

/-- The value of a status register (10_state.md R34 to R39). -/
def csrWord (s : State) : Csr → Word
  | .status => statusWord s
  | .modecfg => modecfgWord s
  | .ilen => BitVec.ofNat 32 s.ilen
  | .olen => BitVec.ofNat 32 s.olen
  | .glen => BitVec.ofNat 32 s.glen
  | .capm => BitVec.ofNat 32 s.build.mmax
  | .capg => BitVec.ofNat 32 s.build.gmax

/-- The number of a status register (10_state.md R34 to R39). -/
def Csr.number : Csr → Nat
  | .status => 0
  | .modecfg => 1
  | .ilen => 2
  | .olen => 3
  | .glen => 4
  | .capm => 5
  | .capg => 6

/-- The register of a number; a number above 6 names none (10_state.md R40). -/
def csrOfNumber : Nat → Option Csr
  | 0 => some .status
  | 1 => some .modecfg
  | 2 => some .ilen
  | 3 => some .olen
  | 4 => some .glen
  | 5 => some .capm
  | 6 => some .capg
  | _ => none

end Sys2Proof.Machine
end

