-- ==== Sys2Proof/Machine/Galois.lean ====
section
/-!
DEFINITION. GaloisTransform: byte substitution and GF(2^8) linear diffusion of a 16-byte block
(40_galois_transform.md), and its four commands `SUB`, `ISUB`, `LIN`, `ILIN`.
-/

namespace Sys2Proof.Machine

/-- `s_fwd(v)[i] = PI[v[i]]` (40_galois_transform.md R123). -/
def sFwd (v : Block) : Block := blockOf (v.toList.map piAt)

/-- `s_inv(v)[i] = PI_INV[v[i]]` (40_galois_transform.md R123). -/
def sInv (v : Block) : Block := blockOf (v.toList.map piInvAt)

/-- `a <- a << 1; if (a & 0x100) != 0: a <- a ^ 0x1C3` (40_galois_transform.md R124). -/
def xtime (a : Byte) : Byte :=
  let d : BitVec 9 := a.setWidth 9 <<< 1
  (if d.getLsbD 8 then d ^^^ poly else d).setWidth 8

/-- The loop of `gf_mul`, `k` more times, with the accumulated result `r`
(40_galois_transform.md R124). -/
def gfLoop : Nat → Byte → Byte → Byte → Byte
  | 0, _, _, r => r
  | k + 1, a, b, r => gfLoop k (xtime a) (b >>> 1) (if b.getLsbD 0 then r ^^^ a else r)

/-- `gf_mul(a, b)`, the product in GF(2^8) modulo `POLY` (40_galois_transform.md R124). -/
def gfMul (a b : Byte) : Byte := gfLoop 8 a b 0

/-- `l_sum(v)`, the weighted XOR-sum of the sixteen bytes (40_galois_transform.md R127). -/
def lSum (v : Block) : Byte := (List.zipWith gfMul lc v.toList).foldl (· ^^^ ·) 0

/-- `r_step(v) = [l_sum(v)] || v[0..15)` (40_galois_transform.md R128). -/
def rStep (v : Block) : Block := blockOf (lSum v :: v.toList.take 15)

/-- `l_fwd`, sixteen forward steps (40_galois_transform.md R129). -/
def lFwd (v : Block) : Block := rStep^[16] v

/-- `w = v[1..16) || [v[0]]`, the rotation of the inverse step (40_galois_transform.md R130). -/
def rotateDown (v : Block) : Block := blockOf (v.toList.drop 1 ++ v.toList.take 1)

/-- `r_inv_step(v) = w[0..15) || [l_sum(w)]` (40_galois_transform.md R130). -/
def rInvStep (v : Block) : Block :=
  let w := rotateDown v
  blockOf (w.toList.take 15 ++ [lSum w])

/-- `l_inv`, sixteen inverse steps (40_galois_transform.md R131). -/
def lInv (v : Block) : Block := rInvStep^[16] v

/-- `SUB`: `BLK <- s_fwd(BLK)` (40_galois_transform.md R134). -/
def execSub (s : State) : Host.Outcome State Fault Refusal :=
  command s [needBlk s] (s.setBlk (sFwd s.blk))

/-- `ISUB`: `BLK <- s_inv(BLK)` (40_galois_transform.md R135). -/
def execIsub (s : State) : Host.Outcome State Fault Refusal :=
  command s [needBlk s] (s.setBlk (sInv s.blk))

/-- `LIN`: `BLK <- l_fwd(BLK)` (40_galois_transform.md R136). -/
def execLin (s : State) : Host.Outcome State Fault Refusal :=
  command s [needBlk s] (s.setBlk (lFwd s.blk))

/-- `ILIN`: `BLK <- l_inv(BLK)` (40_galois_transform.md R137). -/
def execIlin (s : State) : Host.Outcome State Fault Refusal :=
  command s [needBlk s] (s.setBlk (lInv s.blk))

end Sys2Proof.Machine
end

