-- ==== Sys2Proof/Machine/KeySchedule.lean ====
section
/-!
DEFINITION. KeySchedule: a 256-bit master key expanded to ten 128-bit round keys by 32 Feistel rounds
(41_key_schedule.md), and its command `KEXP`.
-/

namespace Sys2Proof.Machine

/-- `round_const(j) = l_fwd(zeros(15) || [j])` (41_key_schedule.md R150). -/
def roundConst (j : Nat) : Block := lFwd (blockOf (zeros 15 ++ [BitVec.ofNat 8 j]))

/-- One inner round on the running state `(left, right)` (41_key_schedule.md R152). -/
def feistel (p : Block × Block) (j : Nat) : Block × Block :=
  (xorBlock p.2 (lFwd (sFwd (xorBlock p.1 (roundConst j)))), p.1)

/-- Outer iteration `i`, 1..4: the inner rounds `8*(i-1) + 1` to `8*(i-1) + 8`
(41_key_schedule.md R153). -/
def eightRounds (p : Block × Block) (i : Nat) : Block × Block :=
  ((List.range 8).map (fun k => 8 * (i - 1) + k + 1)).foldl feistel p

/-- `key_expand(mkey)`: the two halves of the key, then the running state after each outer iteration
(41_key_schedule.md R153). -/
def keyExpand (mkey : Key) : RoundKeys :=
  let p0 := (keyLeft mkey, keyRight mkey)
  let p1 := eightRounds p0 1
  let p2 := eightRounds p1 2
  let p3 := eightRounds p2 3
  let p4 := eightRounds p3 4
  ⟨⟨[p0.1, p0.2, p1.1, p1.2, p2.1, p2.2, p3.1, p3.2, p4.1, p4.2]⟩, rfl⟩

/-- `KEXP`: `RK[1..10] <- key_expand(MKEY)`, `RKV <- 1` (41_key_schedule.md R154). -/
def execKexp (s : State) : Host.Outcome State Fault Refusal :=
  command s [needKey s] (s.setRoundKeys (keyExpand s.mkey))

end Sys2Proof.Machine
end

