-- ==== Sys2Proof/Machine/BlockCipher.lean ====
section
/-!
DEFINITION. BlockCipher: nine rounds of key XOR, substitute, diffuse, then a last key XOR, and the
inverse (42_block_cipher.md), with the commands `ENCB` and `DECB`.
-/

namespace Sys2Proof.Machine

/-- One round of `enc_block` under one round key (42_block_cipher.md R165). -/
def encRound (b k : Block) : Block := lFwd (sFwd (xorBlock b k))

/-- One round of `dec_block` under one round key (42_block_cipher.md R166). -/
def decRound (b k : Block) : Block := sInv (lInv (xorBlock b k))

/-- `enc_block(keys, b)`: rounds under keys 1 to 9, then XOR with key 10 (42_block_cipher.md R165). -/
def encBlock (keys : RoundKeys) (b : Block) : Block :=
  xorBlock ((keys.toList.take 9).foldl encRound b) (roundKey keys 10)

/-- `dec_block(keys, b)`: rounds under keys 10 down to 2, then XOR with key 1
(42_block_cipher.md R166). -/
def decBlock (keys : RoundKeys) (b : Block) : Block :=
  xorBlock ((keys.toList.drop 1).reverse.foldl decRound b) (roundKey keys 1)

/-- `ENCB`: `BLK <- enc_block(RK, BLK)` (42_block_cipher.md R168). -/
def execEncb (s : State) : Host.Outcome State Fault Refusal :=
  command s [needRoundKeys s, needBlk s] (s.setBlk (encBlock s.rk s.blk))

/-- `DECB`: `BLK <- dec_block(RK, BLK)` (42_block_cipher.md R169). -/
def execDecb (s : State) : Host.Outcome State Fault Refusal :=
  command s [needRoundKeys s, needBlk s] (s.setBlk (decBlock s.rk s.blk))

end Sys2Proof.Machine
end

