-- ==== Sys2Proof/Machine/Padding.lean ====
section
/-!
DEFINITION. Padding and the two readings of unpadding (43_mode_common.md R181, R182).
-/

namespace Sys2Proof.Machine

/-- `pad(m, s) = m || [0x80] || zeros(s - 1 - (len(m) mod s))` (43_mode_common.md R181). -/
def pad (m : List Byte) (s : Nat) : List Byte :=
  m ++ Config.padMark :: zeros (s - 1 - m.length % s)

/-- The bytes before the mark, given the message from its end: what stands in front of the mark, or
the whole message where the scan stopped at no mark. -/
def cutAtMark (m : List Byte) : List Byte → List Byte
  | [] => m
  | b :: rest => if b = Config.padMark then rest.reverse else m

/-- `unpad(m)` under either reading (43_mode_common.md R182): the scan runs from the end, over every
byte that is not 0x80 (`last_anywhere`), or over 0x00 bytes only (`zeros_then_mark`). -/
def unpad (r : UnpadRule) (m : List Byte) : List Byte :=
  match r with
  | .lastAnywhere => cutAtMark m (m.reverse.dropWhile fun b => b != Config.padMark)
  | .zerosThenMark => cutAtMark m (m.reverse.dropWhile fun b => b == 0)

end Sys2Proof.Machine
end

