-- ==== Sys2Proof/Machine/Modes.lean ====
section
/-!
DEFINITION. The functions of the six modes (44_modes_ecb_ctr_ofb.md, 45_modes_cbc_cfb.md,
46_mode_mac.md). `E` and `D` are the block cipher under the instance's own round keys. All checks have
been made before one of them runs, so none can fault.
-/

namespace Sys2Proof.Machine

/-- A mode's loop: each piece of the message in order, through one step that gives its output and the
next gamma; the outputs are joined. -/
def chain (f : List Byte → List Byte → List Byte × List Byte) :
    List (List Byte) → List Byte → List Byte × List Byte
  | [], g => ([], g)
  | b :: bs, g =>
    let r := f b g
    let rest := chain f bs r.2
    (r.1 ++ rest.1, rest.2)

/-- A block function on a 16-byte slice. -/
def onSlice (F : Block → Block) (b : List Byte) : List Byte := (F (blockOf b)).toList

/-- `ecb_enc(m)` (44_modes_ecb_ctr_ofb.md R210). -/
def ecbEnc (E : Block → Block) (m : List Byte) : List Byte :=
  ((chunks 16 (pad m 16)).map (onSlice E)).flatten

/-- `ecb_dec(c)` (44_modes_ecb_ctr_ofb.md R211). -/
def ecbDec (r : UnpadRule) (D : Block → Block) (c : List Byte) : List Byte :=
  unpad r ((chunks 16 c).map (onSlice D)).flatten

/-- The ripple-carry of `ctr_inc`, from the last byte: the counter is given reversed
(44_modes_ecb_ctr_ofb.md R212). -/
def incRipple : List Byte → List Byte
  | [] => []
  | b :: bs => if b = 0xFF then 0 :: incRipple bs else (b + 1) :: bs

/-- `ctr_inc(g)`, the gamma incremented as a big-endian counter (44_modes_ecb_ctr_ofb.md R212). -/
def ctrInc (g : List Byte) : List Byte := (incRipple g.reverse).reverse

/-- One block of `ctr_apply` (44_modes_ecb_ctr_ofb.md R213). -/
def ctrStep (E : Block → Block) (b g : List Byte) : List Byte × List Byte :=
  (xorBytes b (onSlice E g), ctrInc g)

/-- `ctr_apply(m, g)` (44_modes_ecb_ctr_ofb.md R213). -/
def ctrApply (E : Block → Block) (m g : List Byte) : List Byte × List Byte :=
  chain (ctrStep E) (chunks 16 m) g

/-- One block of `ofb_apply`: former tail to the head, keystream to the tail
(44_modes_ecb_ctr_ofb.md R214). -/
def ofbStep (E : Block → Block) (b g : List Byte) : List Byte × List Byte :=
  let ks := onSlice E (g.take 16)
  (xorBytes b ks, g.drop 16 ++ ks)

/-- `ofb_apply(m, g)` (44_modes_ecb_ctr_ofb.md R214). -/
def ofbApply (E : Block → Block) (m g : List Byte) : List Byte × List Byte :=
  chain (ofbStep E) (chunks 16 m) g

/-- One block of `cbc_enc` (45_modes_cbc_cfb.md R240). -/
def cbcEncStep (E : Block → Block) (b g : List Byte) : List Byte × List Byte :=
  let c := onSlice E (xorBytes b (g.take 16))
  (c, g.drop 16 ++ c)

/-- `cbc_enc(m, g)` (45_modes_cbc_cfb.md R240). -/
def cbcEnc (E : Block → Block) (m g : List Byte) : List Byte × List Byte :=
  chain (cbcEncStep E) (chunks 16 (pad m 16)) g

/-- One block of `cbc_dec`: the original ciphertext goes into the window
(45_modes_cbc_cfb.md R241). -/
def cbcDecStep (D : Block → Block) (b g : List Byte) : List Byte × List Byte :=
  (xorBytes (onSlice D b) (g.take 16), g.drop 16 ++ b)

/-- `cbc_dec(c, g)` (45_modes_cbc_cfb.md R241). -/
def cbcDec (r : UnpadRule) (D : Block → Block) (c g : List Byte) : List Byte × List Byte :=
  let p := chain (cbcDecStep D) (chunks 16 c) g
  (unpad r p.1, p.2)

/-- One segment of `cfb_enc` (45_modes_cbc_cfb.md R242). -/
def cfbEncStep (E : Block → Block) (n : Nat) (b g : List Byte) : List Byte × List Byte :=
  let c := xorBytes b ((onSlice E (g.take 16)).take n)
  (c, g.drop n ++ c)

/-- What Cfb encrypts: an aligned message as it is, any other padded to whole segments
(45_modes_cbc_cfb.md R242). -/
def cfbPlain (n : Nat) (m : List Byte) : List Byte :=
  if m.length % n = 0 then m else pad m n

/-- `cfb_enc(m, g, s)` (45_modes_cbc_cfb.md R242). -/
def cfbEnc (E : Block → Block) (n : Nat) (m g : List Byte) : List Byte × List Byte :=
  chain (cfbEncStep E n) (chunks n (cfbPlain n m)) g

/-- One segment of `cfb_dec`: the keystream comes from the gamma before the shift, the original
ciphertext goes into the window (45_modes_cbc_cfb.md R243). -/
def cfbDecStep (E : Block → Block) (n : Nat) (b g : List Byte) : List Byte × List Byte :=
  (xorBytes b ((onSlice E (g.take 16)).take n), g.drop n ++ b)

/-- `cfb_dec(c, g, s)`, always unpadded (45_modes_cbc_cfb.md R243). -/
def cfbDec (r : UnpadRule) (E : Block → Block) (n : Nat) (c g : List Byte) :
    List Byte × List Byte :=
  let p := chain (cfbDecStep E n) (chunks n c) g
  (unpad r p.1, p.2)

/-- `gf128_double(v)`: one 128-bit left shift, and 0x87 into the last byte when a 1 left the top
(46_mode_mac.md R270). -/
def gf128Double (v : Block) : Block :=
  let l := v.toList
  let carried : List Byte := (l.drop 1).map (fun b : Byte => b >>> 7) ++ [0]
  let r : List Byte := List.zipWith (fun b c : Byte => b <<< 1 ||| c) l carried
  if (l.headD 0).msb then blockOf (r.take 15 ++ [r.getD 15 0 ^^^ Config.macRed]) else blockOf r

/-- `mac_subkeys(keys)` (46_mode_mac.md R271). -/
def macSubkeys (keys : RoundKeys) : Block × Block :=
  let sk1 := gf128Double (encBlock keys zeroBlock)
  (sk1, gf128Double sk1)

/-- The running result of `mac_tag` over the blocks before the last (46_mode_mac.md R272). -/
def macAccumulate (E : Block → Block) (blocks : List (List Byte)) : Block :=
  blocks.foldl (fun acc b => E (xorBlock acc (blockOf b))) zeroBlock

/-- The last cipher output of `mac_tag`, before truncation (46_mode_mac.md R272). -/
def macFull (E : Block → Block) (m : List Byte) (sk1 sk2 : Block) : Block :=
  let padded := m.length % 16 ≠ 0
  let blocks := chunks 16 (if padded then pad m 16 else m)
  let acc := macAccumulate E blocks.dropLast
  let sk := if padded then sk2 else sk1
  E (xorBlock (xorBlock acc sk) (blockOf (blocks.getLastD [])))

/-- `mac_tag(m, sk1, sk2, t)`: the first `t` bytes (46_mode_mac.md R272). -/
def macTag (E : Block → Block) (m : List Byte) (sk1 sk2 : Block) (t : Nat) : List Byte :=
  (macFull E m sk1 sk2).toList.take t

end Sys2Proof.Machine
end

