-- ==== Sys2Proof/Machine/ModeLayer.lean ====
section
/-!
DEFINITION. ModeLayer: the gamma check and the commands `MINIT`, `MCFG`, `MENC`, `MDEC`
(43_mode_common.md).
-/

namespace Sys2Proof.Machine

/-- `gamma_check()` (43_mode_common.md R186). -/
def gammaChecks (s : State) : List Check :=
  match s.mode with
  | .ecb => []
  | .mac => []
  | .ctr =>
    [{ holds := decide (16 ≤ s.glen), code := .configurationError },
     { holds := decide (s.glen ≤ 16), code := .refused }]
  | .ofb =>
    [{ holds := decide (32 ≤ s.glen), code := .configurationError },
     { holds := decide (s.glen ≤ 32), code := .refused }]
  | .cbc => [{ holds := decide (16 ≤ s.glen), code := .configurationError }]
  | .cfb =>
    [{ holds := decide (16 ≤ s.glen), code := .configurationError },
     { holds := decide (s.glen % s.seg = 0), code := .configurationError }]

/-- The message check of `MENC`: in Mac mode only, `ILEN > 0` (43_mode_common.md R187). -/
def encryptChecks (s : State) : List Check :=
  match s.mode with
  | .mac => [{ holds := decide (0 < s.ilen), code := .refused }]
  | .ecb => []
  | .ctr => []
  | .ofb => []
  | .cbc => []
  | .cfb => []

/-- The message check of `MDEC`: whole blocks in Ecb and Cbc, whole segments in Cfb
(43_mode_common.md R188). -/
def decryptChecks (s : State) : List Check :=
  match s.mode with
  | .ecb => [{ holds := decide (s.ilen % 16 = 0), code := .contractViolation }]
  | .cbc => [{ holds := decide (s.ilen % 16 = 0), code := .contractViolation }]
  | .cfb => [{ holds := decide (s.ilen % s.seg = 0), code := .contractViolation }]
  | .ctr => []
  | .ofb => []
  | .mac => []

/-- The output and the next gamma of `MENC` (43_mode_common.md R187). -/
def modeEncrypt (s : State) : List Byte × List Byte :=
  let E := encBlock s.mrk
  match s.mode with
  | .ecb => (ecbEnc E s.message, s.gamma)
  | .ctr => ctrApply E s.message s.gamma
  | .ofb => ofbApply E s.message s.gamma
  | .cbc => cbcEnc E s.message s.gamma
  | .cfb => cfbEnc E s.seg s.message s.gamma
  | .mac => (macTag E s.message s.sk1 s.sk2 s.taglen, s.gamma)

/-- The output and the next gamma of `MDEC` (43_mode_common.md R188). Mac has no decryption: the check
before it raises `UnsupportedOperation`, so its line here is never used. -/
def modeDecrypt (s : State) : List Byte × List Byte :=
  let E := encBlock s.mrk
  let D := decBlock s.mrk
  let r := s.build.unpadRule
  match s.mode with
  | .ecb => (ecbDec r D s.message, s.gamma)
  | .ctr => ctrApply E s.message s.gamma
  | .ofb => ofbApply E s.message s.gamma
  | .cbc => cbcDec r D s.message s.gamma
  | .cfb => cfbDec r E s.seg s.message s.gamma
  | .mac => ([], s.gamma)

/-- The subkeys of a new Mac instance; a new instance of another mode writes none
(43_mode_common.md R184; log entry 3). -/
def State.deriveSubkeys (s : State) (m : Mode) (ks : RoundKeys) : State :=
  if m = .mac then s.setSubkeys (macSubkeys ks) else s

/-- `MINIT mode, n` (43_mode_common.md R184). -/
def execMinit (m : Mode) (n : BitVec 16) (s : State) : Host.Outcome State Fault Refusal :=
  command s [needOperands (.minit m n), needRoundKeys s]
    ((s.newInstance m s.rk (segOperand m n) (tagOperand m n)).deriveSubkeys m s.rk)

/-- `MCFG`: `GAMMA[0..ILEN) <- IBUF[0..ILEN)`, `GLEN <- ILEN` (43_mode_common.md R185). -/
def execMcfg (s : State) : Host.Outcome State Fault Refusal :=
  command s
    [needInstance s, { holds := decide (s.ilen ≤ s.build.gmax), code := .capacityExceeded }]
    (s.setGamma s.message)

/-- `MENC`, encrypt one whole message, or compute its tag (43_mode_common.md R187). -/
def execMenc (s : State) : Host.Outcome State Fault Refusal :=
  command s (needInstance s :: gammaChecks s ++ encryptChecks s)
    ((s.setGamma (modeEncrypt s).2).output (modeEncrypt s).1)

/-- `MDEC`, decrypt one whole message (43_mode_common.md R188). -/
def execMdec (s : State) : Host.Outcome State Fault Refusal :=
  command s
    (needInstance s :: { holds := decide (s.mode ≠ .mac), code := .unsupportedOperation } ::
      gammaChecks s ++ decryptChecks s)
    ((s.setGamma (modeDecrypt s).2).output (modeDecrypt s).1)

end Sys2Proof.Machine
end

