-- ==== Sys2Proof/Machine/HostData.lean ====
section
/-!
DEFINITION. The data movement and system commands `NOP`, `LDK`, `LDB`, `STB`, `STRK`, `STG`, `STSK`
(47_host_data_and_system.md).
-/

namespace Sys2Proof.Machine

/-- `ILEN == n`, else `ContractViolation` (60_exceptions.md R323). -/
def needLength (s : State) (n : Nat) : Check :=
  { holds := decide (s.ilen = n), code := .contractViolation }

/-- `NOP`, no state changes (47_host_data_and_system.md R290). -/
def execNop (s : State) : Host.Outcome State Fault Refusal := command s [] s

/-- `LDK`: `MKEY[0..32) <- IBUF[0..32)`, `KEYV <- 1`, `RKV <- 0` (47_host_data_and_system.md R291). -/
def execLdk (s : State) : Host.Outcome State Fault Refusal :=
  command s [needLength s 32] (s.loadKey (fixedOf 32 s.message))

/-- `LDB`: `BLK[0..16) <- IBUF[0..16)`, `BLKV <- 1` (47_host_data_and_system.md R292). -/
def execLdb (s : State) : Host.Outcome State Fault Refusal :=
  command s [needLength s 16] (s.loadBlk (blockOf s.message))

/-- `STB`: `OBUF[0..16) <- BLK`, `OLEN <- 16` (47_host_data_and_system.md R293). -/
def execStb (s : State) : Host.Outcome State Fault Refusal :=
  command s [needBlk s] (s.output s.blk.toList)

/-- `STRK i`: `OBUF[0..16) <- RK[i]`, `OLEN <- 16` (47_host_data_and_system.md R294). -/
def execStrk (i : BitVec 8) (s : State) : Host.Outcome State Fault Refusal :=
  command s [needOperands (.strk i), needRoundKeys s]
    (s.output (roundKey s.rk i.toNat).toList)

/-- `STG`: `OBUF[0..GLEN) <- GAMMA[0..GLEN)`, `OLEN <- GLEN` (47_host_data_and_system.md R295). -/
def execStg (s : State) : Host.Outcome State Fault Refusal :=
  command s [needInstance s] (s.output s.gamma)

/-- `STSK j`: `OBUF[0..16) <- SKj`, `OLEN <- 16`, on a Mac instance only
(47_host_data_and_system.md R296). -/
def execStsk (j : BitVec 8) (s : State) : Host.Outcome State Fault Refusal :=
  command s
    [needOperands (.stsk j), needInstance s,
     { holds := decide (s.mode = .mac), code := .unsupportedOperation }]
    (s.output (subkey s j).toList)

end Sys2Proof.Machine
end

