-- ==== Sys2Proof/Machine/Dispatch.lean ====
section
/-!
DEFINITION. The meaning of a decoded command: one arm for each constructor of `Instr`, each a direct
call of that command's own meaning.
-/

namespace Sys2Proof.Machine

def exec (i : Instr) (s : State) : Host.Outcome State Fault Refusal :=
  match i with
  | .nop => Sys2Proof.Machine.execNop s
  | .ldk => Sys2Proof.Machine.execLdk s
  | .ldb => Sys2Proof.Machine.execLdb s
  | .stb => Sys2Proof.Machine.execStb s
  | .strk k => Sys2Proof.Machine.execStrk k s
  | .stg => Sys2Proof.Machine.execStg s
  | .stsk j => Sys2Proof.Machine.execStsk j s
  | .sub => Sys2Proof.Machine.execSub s
  | .isub => Sys2Proof.Machine.execIsub s
  | .lin => Sys2Proof.Machine.execLin s
  | .ilin => Sys2Proof.Machine.execIlin s
  | .kexp => Sys2Proof.Machine.execKexp s
  | .encb => Sys2Proof.Machine.execEncb s
  | .decb => Sys2Proof.Machine.execDecb s
  | .minit m n => Sys2Proof.Machine.execMinit m n s
  | .mcfg => Sys2Proof.Machine.execMcfg s
  | .menc => Sys2Proof.Machine.execMenc s
  | .mdec => Sys2Proof.Machine.execMdec s

end Sys2Proof.Machine
end

