-- ==== Sys2Proof/Machine/HostOps.lean ====
section
/-!
DEFINITION. The four host operations (20_memory.md R62 to R65) and the reset event
(70_reset_and_hazards.md R360).
-/

namespace Sys2Proof.Machine

/-- `HostLoad(m)` (20_memory.md R62): `command`'s shape, with the capacity as its one check. -/
def hostLoad (m : List Byte) (s : State) : Host.Outcome State Fault Refusal :=
  command s [{ holds := decide (m.length ≤ s.build.mmax), code := .capacityExceeded }]
    (s.setInput m)

/-- `HostCmd(w)` (20_memory.md R63, 30_encoding.md R102): a faulted device does not even decode
(60_exceptions.md R331); an illegal word raises `IllegalCommand`; a legal one is executed. -/
def hostCmd (w : Word) (s : State) : Host.Outcome State Fault Refusal :=
  if s.faulted then .next s
  else match decode w with
    | .error _ => .next (s.raise .illegalCommand)
    | .ok i => exec i s

/-- `HostStore()` (20_memory.md R64): it returns `OBUF[0..OLEN)` and changes nothing else. -/
def hostStore (s : State) : Host.Outcome State Fault Refusal := .next (s.reply (.bytes s.obuf.bytes))

/-- `HostCsrRead(n)` (20_memory.md R65): it returns the register and changes nothing else. -/
def hostCsrRead (c : Csr) (s : State) : Host.Outcome State Fault Refusal :=
  .next (s.reply (.word (csrWord s c)))

/-- One host operation (00_scope.md R18). -/
def hostOp (op : HostOp) (s : State) : Host.Outcome State Fault Refusal :=
  match op with
  | .load m => hostLoad m s
  | .cmd w => hostCmd w s
  | .store => hostStore s
  | .csrRead c => hostCsrRead c s

/-- One event from outside. -/
def perform (e : Event) (s : State) : Host.Outcome State Fault Refusal :=
  match e with
  | .host op => hostOp op s
  | .reset => .next s.resetDevice

/-- What comes next from outside, and the state in which it is performed: the event is no longer to
come. `none` when the host has issued nothing (70_reset_and_hazards.md R370). -/
def fetch (s : State) : Option (Event × State) :=
  match s.inputs with
  | [] => none
  | e :: es => some (e, s.setInputs es)

/-- `s` with the event put before all that is to come. -/
def State.withEvent (s : State) (e : Event) : State := s.setInputs (e :: s.inputs)

end Sys2Proof.Machine
end

