-- ==== Sys2Proof/Machine/Step.lean ====
section
/-!
DEFINITION. One step of the machine: one event from outside, performed to completion (00_scope.md
R18). When nothing is to come, KZN-CORE "does nothing and holds its state" (60_exceptions.md R339).
-/

namespace Sys2Proof.Machine

/-- One step. -/
def step (s : State) : Host.Outcome State Fault Refusal :=
  match fetch s with
  | none => .next s
  | some p => perform p.1 p.2

/-- `s` with the command word of an opcode-table instruction as the host's next operation. There is no
program memory and no fetch (10_state.md R31): the word stands where `step` takes its next event
(log entry 5). -/
def State.withFetchWord (s : State) (nbits w : Nat) : State :=
  s.withEvent (.host (.cmd (tableWord nbits w)))

end Sys2Proof.Machine
end

