-- ==== Sys2Proof/Safety.lean ====
section
/-!
DEFINITION. What a well-formed state of KZN-CORE is, and what a host can tell apart: the two notions
the statements about whole runs are made of.
-/

namespace Sys2Proof.Machine

/-- The relations between the fields of 10_state.md that reset establishes and every step keeps. -/
structure State.Inv (s : State) : Prop where
  /-- The parameters are those of a build (00_scope.md R10). -/
  build_valid : s.build.Valid
  /-- `IBUF` is in the canonical form of a buffer. -/
  ibuf_wf : s.ibuf.wf = true
  /-- `OBUF` is in the canonical form of a buffer. -/
  obuf_wf : s.obuf.wf = true
  /-- `0 <= ILEN <= MMAX` (10_state.md R29). -/
  ilen_le : s.ilen ≤ s.build.mmax
  /-- `0 <= OLEN <= OMAX` (10_state.md R30). -/
  olen_le : s.olen ≤ s.build.omax
  /-- `0 <= GLEN <= GMAX` (10_state.md R27). -/
  glen_le : s.glen ≤ s.build.gmax
  /-- `SEG` is 1..16 (10_state.md R28). -/
  seg_range : 1 ≤ s.seg ∧ s.seg ≤ 16
  /-- `TAGLEN` is 1..16 (10_state.md R28). -/
  taglen_range : 1 ≤ s.taglen ∧ s.taglen ≤ 16
  /-- `SEG` is 16 in every mode but Cfb (10_state.md R35). -/
  seg_default : s.mode ≠ .cfb → s.seg = 16
  /-- `TAGLEN` is 8 in every mode but Mac (10_state.md R35). -/
  taglen_default : s.mode ≠ .mac → s.taglen = 8
  /-- `RKV` is 1 only when `RK` was derived from the present `MKEY`, which is valid then
  (10_state.md R24). -/
  rk_derived : s.rkv = true → s.keyv = true ∧ s.rk = keyExpand s.mkey
  /-- A mode instance's round keys were derived from some master key (10_state.md R25). -/
  mrk_derived : s.miv = true → s.keyv = true ∧ ∃ k, s.mrk = keyExpand k
  /-- A Mac instance holds the subkeys of its own round keys (10_state.md R26). -/
  subkeys_derived : s.miv = true → s.mode = .mac → (s.sk1, s.sk2) = macSubkeys s.mrk
  /-- Without a mode instance the gamma is empty and the mode registers hold their reset values
  (10_state.md R42; only `MINIT` and `MCFG` would change them). -/
  no_instance : s.miv = false → s.gamma = [] ∧ s.mode = .ecb

/-- Two states the host cannot tell apart: they agree on everything but the contents of registers that
a validity bit guards and that are not valid (10_state.md R42, 93_implementation_defined.md U14). -/
structure State.SameView (s t : State) : Prop where
  blkv : s.blkv = t.blkv
  keyv : s.keyv = t.keyv
  rkv : s.rkv = t.rkv
  miv : s.miv = t.miv
  gamma : s.gamma = t.gamma
  mode : s.mode = t.mode
  seg : s.seg = t.seg
  taglen : s.taglen = t.taglen
  ibuf : s.ibuf = t.ibuf
  obuf : s.obuf = t.obuf
  fault : s.fault = t.fault
  build : s.build = t.build
  inputs : s.inputs = t.inputs
  replies : s.replies = t.replies
  /-- `BLK` where it is valid (10_state.md R22). -/
  blk : s.blkv = true → s.blk = t.blk
  /-- `MKEY` where it is valid (10_state.md R23). -/
  mkey : s.keyv = true → s.mkey = t.mkey
  /-- `RK` where it is valid (10_state.md R24). -/
  rk : s.rkv = true → s.rk = t.rk
  /-- `MRK` where an instance exists (10_state.md R25). -/
  mrk : s.miv = true → s.mrk = t.mrk
  /-- `SK1`, `SK2` where a Mac instance exists (10_state.md R26). -/
  subkeys : s.miv = true → s.mode = .mac → s.sk1 = t.sk1 ∧ s.sk2 = t.sk2

/-- A run is faulted when the latch is set at its end (70_reset_and_hazards.md R370); until then every
operation had its effect. -/
def State.Safe (s : State) : Prop := s.fault = none

end Sys2Proof.Machine
end

