-- ==== Sys2Proof/Certificates/Slice0/Obligations.lean ====
section
/-!
DEFINITION. The statements about KZN-CORE, each from the numbered rules of spec/, with the few notions
they are written in. Where a notion repeats a rule of the spec in another form than the model has it
(the matrix of R132, the legal words of R97), it stands here, apart from the model.
-/

namespace Sys2Proof.Spec

open Sys2Proof.Machine

/-- `bytes_be(n, k)`, the `k`-byte string that denotes `n` (00_scope.md R13). -/
def bytesBE (k n : Nat) : List Byte :=
  (List.range k).map fun i => BitVec.ofNat 8 (n / 256 ^ (k - 1 - i))

/-- The block a 32-digit hexadecimal string of the spec denotes. -/
def block (n : Nat) : Block := blockOf (bytesBE 16 n)

/-- `v[a..a+n)` (00_scope.md R11). -/
def slice (v : List Byte) (a n : Nat) : List Byte := (v.drop a).take n

/-- The exclusive-or of all bytes of a list. -/
def xorAll (l : List Byte) : Byte := l.foldr (· ^^^ ·) 0

/-- The matrix of `l_fwd` (40_galois_transform.md R132). -/
def linMatrix : List (List Byte) :=
  [[0xcf, 0x98, 0x74, 0xbf, 0x93, 0x8e, 0xf2, 0xf3, 0x0a, 0xbf, 0xf6, 0xa9, 0xea, 0x8e, 0x4d, 0x6e],
   [0x6e, 0x20, 0xc6, 0xda, 0x90, 0x48, 0x89, 0x9c, 0xc1, 0x64, 0xb8, 0x2d, 0x86, 0x44, 0xd0, 0xa2],
   [0xa2, 0xc8, 0x87, 0x70, 0x68, 0x43, 0x1c, 0x2b, 0xa1, 0x63, 0x30, 0x6b, 0x9f, 0x30, 0xe3, 0x76],
   [0x76, 0x33, 0x10, 0x0c, 0x1c, 0x11, 0xd6, 0x6a, 0xa6, 0xd7, 0xf6, 0x49, 0x07, 0x14, 0xe8, 0x72],
   [0x72, 0xf2, 0x6b, 0xca, 0x20, 0xeb, 0x02, 0xa4, 0x8d, 0xd4, 0xc4, 0x01, 0x65, 0xdd, 0x4c, 0x6c],
   [0x6c, 0x76, 0xec, 0x0c, 0xc5, 0xbc, 0xaf, 0x6e, 0xa3, 0xe1, 0x90, 0x58, 0x0e, 0x02, 0xc3, 0x48],
   [0x48, 0xd5, 0x62, 0x17, 0x06, 0x2d, 0xc4, 0xe7, 0xd5, 0xeb, 0x99, 0x78, 0x52, 0xf5, 0x16, 0x7a],
   [0x7a, 0xe6, 0x4e, 0x1a, 0xbb, 0x2e, 0xf1, 0xbe, 0xd4, 0xaf, 0x37, 0xb1, 0xd4, 0x2a, 0x6e, 0xb8],
   [0xb8, 0x49, 0x87, 0x14, 0xcb, 0x8d, 0xab, 0x49, 0x09, 0x6c, 0x2a, 0x01, 0x60, 0x8e, 0x4b, 0x5d],
   [0x5d, 0xd4, 0xb8, 0x2f, 0x8d, 0x12, 0xee, 0xf6, 0x08, 0x54, 0x0f, 0xf3, 0x98, 0xc8, 0x7f, 0x27],
   [0x27, 0x9f, 0xbe, 0x68, 0x1a, 0x7c, 0xad, 0xc9, 0x84, 0x2f, 0xeb, 0xfe, 0xc6, 0x48, 0xa2, 0xbd],
   [0xbd, 0x95, 0x5e, 0x30, 0xe9, 0x60, 0xbf, 0x10, 0xef, 0x39, 0xec, 0x91, 0x7f, 0x48, 0x89, 0x10],
   [0x10, 0xe9, 0xd0, 0xd9, 0xf3, 0x94, 0x3d, 0xaf, 0x7b, 0xff, 0x64, 0x91, 0x52, 0xf8, 0x0d, 0xdd],
   [0xdd, 0x99, 0x75, 0xca, 0x97, 0x44, 0x5a, 0xe0, 0x30, 0xa6, 0x31, 0xd3, 0xdf, 0x48, 0x64, 0x84],
   [0x84, 0x2d, 0x74, 0x96, 0x5d, 0x77, 0x6f, 0xde, 0x54, 0xb4, 0x8d, 0xd1, 0x44, 0x3c, 0xa5, 0x94],
   [0x94, 0x20, 0x85, 0x10, 0xc2, 0xc0, 0x01, 0xfb, 0x01, 0xc0, 0xc2, 0x10, 0x85, 0x20, 0x94, 0x01]]

/-- The matrix of `l_inv` (40_galois_transform.md R132). -/
def linInvMatrix : List (List Byte) :=
  [[0x01, 0x94, 0x20, 0x85, 0x10, 0xc2, 0xc0, 0x01, 0xfb, 0x01, 0xc0, 0xc2, 0x10, 0x85, 0x20, 0x94],
   [0x94, 0xa5, 0x3c, 0x44, 0xd1, 0x8d, 0xb4, 0x54, 0xde, 0x6f, 0x77, 0x5d, 0x96, 0x74, 0x2d, 0x84],
   [0x84, 0x64, 0x48, 0xdf, 0xd3, 0x31, 0xa6, 0x30, 0xe0, 0x5a, 0x44, 0x97, 0xca, 0x75, 0x99, 0xdd],
   [0xdd, 0x0d, 0xf8, 0x52, 0x91, 0x64, 0xff, 0x7b, 0xaf, 0x3d, 0x94, 0xf3, 0xd9, 0xd0, 0xe9, 0x10],
   [0x10, 0x89, 0x48, 0x7f, 0x91, 0xec, 0x39, 0xef, 0x10, 0xbf, 0x60, 0xe9, 0x30, 0x5e, 0x95, 0xbd],
   [0xbd, 0xa2, 0x48, 0xc6, 0xfe, 0xeb, 0x2f, 0x84, 0xc9, 0xad, 0x7c, 0x1a, 0x68, 0xbe, 0x9f, 0x27],
   [0x27, 0x7f, 0xc8, 0x98, 0xf3, 0x0f, 0x54, 0x08, 0xf6, 0xee, 0x12, 0x8d, 0x2f, 0xb8, 0xd4, 0x5d],
   [0x5d, 0x4b, 0x8e, 0x60, 0x01, 0x2a, 0x6c, 0x09, 0x49, 0xab, 0x8d, 0xcb, 0x14, 0x87, 0x49, 0xb8],
   [0xb8, 0x6e, 0x2a, 0xd4, 0xb1, 0x37, 0xaf, 0xd4, 0xbe, 0xf1, 0x2e, 0xbb, 0x1a, 0x4e, 0xe6, 0x7a],
   [0x7a, 0x16, 0xf5, 0x52, 0x78, 0x99, 0xeb, 0xd5, 0xe7, 0xc4, 0x2d, 0x06, 0x17, 0x62, 0xd5, 0x48],
   [0x48, 0xc3, 0x02, 0x0e, 0x58, 0x90, 0xe1, 0xa3, 0x6e, 0xaf, 0xbc, 0xc5, 0x0c, 0xec, 0x76, 0x6c],
   [0x6c, 0x4c, 0xdd, 0x65, 0x01, 0xc4, 0xd4, 0x8d, 0xa4, 0x02, 0xeb, 0x20, 0xca, 0x6b, 0xf2, 0x72],
   [0x72, 0xe8, 0x14, 0x07, 0x49, 0xf6, 0xd7, 0xa6, 0x6a, 0xd6, 0x11, 0x1c, 0x0c, 0x10, 0x33, 0x76],
   [0x76, 0xe3, 0x30, 0x9f, 0x6b, 0x30, 0x63, 0xa1, 0x2b, 0x1c, 0x43, 0x68, 0x70, 0x87, 0xc8, 0xa2],
   [0xa2, 0xd0, 0x44, 0x86, 0x2d, 0xb8, 0x64, 0xc1, 0x9c, 0x89, 0x48, 0x90, 0xda, 0xc6, 0x20, 0x6e],
   [0x6e, 0x4d, 0x8e, 0xea, 0xa9, 0xf6, 0xbf, 0x0a, 0xf3, 0xf2, 0x8e, 0x93, 0xbf, 0x74, 0x98, 0xcf]]

/-- `XOR over j of gf_mul(M[i][j], v[j])` (40_galois_transform.md R132). -/
def matrixRow (M : List (List Byte)) (v : Block) (i : Nat) : Byte :=
  xorAll (List.zipWith gfMul (M.getD i []) v.toList)

/-- The substitution table in decimal, as 40_galois_transform.md R121 prints it the second time. -/
def substitutionTable : List Nat :=
  [252, 238, 221, 17, 207, 110, 49, 22, 251, 196, 250, 218, 35, 197, 4, 77,
   233, 119, 240, 219, 147, 46, 153, 186, 23, 54, 241, 187, 20, 205, 95, 193,
   249, 24, 101, 90, 226, 92, 239, 33, 129, 28, 60, 66, 139, 1, 142, 79,
   5, 132, 2, 174, 227, 106, 143, 160, 6, 11, 237, 152, 127, 212, 211, 31,
   235, 52, 44, 81, 234, 200, 72, 171, 242, 42, 104, 162, 253, 58, 206, 204,
   181, 112, 14, 86, 8, 12, 118, 18, 191, 114, 19, 71, 156, 183, 93, 135,
   21, 161, 150, 41, 16, 123, 154, 199, 243, 145, 120, 111, 157, 158, 178, 177,
   50, 117, 25, 61, 255, 53, 138, 126, 109, 84, 198, 128, 195, 189, 13, 87,
   223, 245, 36, 169, 62, 168, 67, 201, 215, 121, 214, 246, 124, 34, 185, 3,
   224, 15, 236, 222, 122, 148, 176, 188, 220, 232, 40, 80, 78, 51, 10, 74,
   167, 151, 96, 115, 30, 0, 98, 68, 26, 184, 56, 130, 100, 159, 38, 65,
   173, 69, 70, 146, 39, 94, 85, 47, 140, 163, 165, 125, 105, 213, 149, 59,
   7, 88, 179, 64, 134, 172, 29, 247, 48, 55, 107, 228, 136, 217, 231, 137,
   225, 27, 131, 73, 76, 63, 248, 254, 141, 83, 170, 144, 202, 216, 133, 97,
   32, 113, 103, 164, 45, 43, 9, 91, 203, 155, 37, 208, 190, 229, 108, 82,
   89, 166, 116, 210, 230, 244, 180, 192, 209, 102, 175, 194, 57, 75, 99, 182]

/-- The numbers of the faults, 0 for none (60_exceptions.md R320). -/
def faultNumber : Option FaultCode → Nat
  | none => 0
  | some .configurationError => 1
  | some .unsupportedOperation => 2
  | some .contractViolation => 3
  | some .notReady => 4
  | some .illegalCommand => 5
  | some .capacityExceeded => 6
  | some .refused => 7

/-- The numbers of the modes (30_encoding.md R96). -/
def modeNumber : Mode → Nat
  | .ecb => 0
  | .ctr => 1
  | .ofb => 2
  | .cbc => 3
  | .cfb => 4
  | .mac => 5

/-- The illegal words 30_encoding.md R98 lists. -/
def illegalExamples : List Word :=
  [0x00010000, 0x07000000, 0x04000000, 0x040B0000, 0x04010001, 0x30060000, 0x30000001, 0x30040011,
   0x06030000, 0x10000001, 0xFF000000]

/-- The legal words, as the complement of 30_encoding.md R97 lists them. -/
def legalWord (w : Word) : Prop :=
  ((opcField w).toNat ∈ [0x00, 0x01, 0x02, 0x03, 0x05, 0x10, 0x11, 0x12, 0x13, 0x20, 0x28, 0x29,
      0x31, 0x32, 0x33] ∧ aField w = 0 ∧ nField w = 0) ∨
  (opcField w = 0x04 ∧ 1 ≤ (aField w).toNat ∧ (aField w).toNat ≤ 10 ∧ nField w = 0) ∨
  (opcField w = 0x06 ∧ 1 ≤ (aField w).toNat ∧ (aField w).toNat ≤ 2 ∧ nField w = 0) ∨
  (opcField w = 0x30 ∧ (aField w).toNat ≤ 3 ∧ nField w = 0) ∨
  (opcField w = 0x30 ∧ 4 ≤ (aField w).toNat ∧ (aField w).toNat ≤ 5 ∧ (nField w).toNat ≤ 16)

/-- The host's next operation is the command `i`. -/
def issues (s : State) (i : Instr) : Prop :=
  ∃ w, s.inputs.head? = some (.host (.cmd w)) ∧ decode w = .ok i

/-- The next event is reset. -/
def resets (s : State) : Prop := s.inputs.head? = some .reset

/-- The device can run a command: no fault is latched (60_exceptions.md R331). -/
def idle (s : State) : Prop := s.fault = none

/-- A mode instance of mode `m` exists on a device without a fault. -/
def inMode (s : State) (m : Mode) : Prop := idle s ∧ s.miv = true ∧ s.mode = m

/-- The gamma passes the check of 43_mode_common.md R186. -/
def gammaReady (s : State) : Prop :=
  (s.mode = .ctr → s.glen = 16) ∧ (s.mode = .ofb → s.glen = 32) ∧ (s.mode = .cbc → 16 ≤ s.glen) ∧
  (s.mode = .cfb → 16 ≤ s.glen ∧ s.glen % s.seg = 0)

/-- `SEG` and `TAGLEN` hold legal values (10_state.md R28). -/
def sizesLegal (s : State) : Prop := 1 ≤ s.seg ∧ s.seg ≤ 16 ∧ 1 ≤ s.taglen ∧ s.taglen ≤ 16

/-- `E(b)`, the block cipher under the instance's round keys (43_mode_common.md). -/
def cipher (s : State) (b : List Byte) : List Byte := (encBlock s.mrk (blockOf b)).toList

/-- `D(b)`, its inverse. -/
def decipher (s : State) (b : List Byte) : List Byte := (decBlock s.mrk (blockOf b)).toList

/-- The message in the input buffer comes back whole from the unpadding scan: it holds no mark
(`last_anywhere`), or does not end in a mark followed by zeros (`zeros_then_mark`)
(45_modes_cbc_cfb.md R243). -/
def survivesUnpad (r : UnpadRule) (m : List Byte) : Prop :=
  match r with
  | .lastAnywhere => (0x80 : Byte) ∉ m
  | .zerosThenMark => ∀ u n, m ≠ u ++ (0x80 : Byte) :: zeros n

/-- How many ciphertext blocks an always-padded message of `n` bytes has (43_mode_common.md R181). -/
def paddedBlocks (n : Nat) : Nat := n / 16 + 1

end Sys2Proof.Spec

open Sys2Proof Sys2Proof.Machine Sys2Proof.Spec

/-! ### Encoding and decoding -/

/-- Decode and encode agree on every command (30_encoding.md R90, R95, R99): no operand bit of an
encoding is dropped. -/
def Obligations.EncodedCommandDecodesBack : Prop :=
  ∀ i : Instr, i.wf = true → decode (encode i) = .ok i

/-- The words that decode are exactly the legal ones of 30_encoding.md R95 and R97. -/
def Obligations.LegalWordsAreExactlyTheOpcodeMap : Prop :=
  ∀ w : Word, (∃ i, decode w = .ok i) ↔ legalWord w

/-- A word decodes to at most one command, which is well-formed and encodes back to the word
(30_encoding.md R99: it matches exactly one row, with its operand conditions). -/
def Obligations.DecodedCommandEncodesToItsWord : Prop :=
  ∀ (w : Word) (i : Instr), decode w = .ok i → i.wf = true ∧ encode i = w

/-- A word of each of the eighteen rows of 30_encoding.md R95 and of each of the six mode codes of R96
decodes to its command, the nearest legal words of R98 and a sized word of R100 among them, and the
illegal words R98 lists do not decode. The two error names at the end are the model's own (log entry
14, DESIGN CHOICE): the spec has one verdict, illegal. -/
def Obligations.SampleWordsDecodeAsListed : Prop :=
  decode 0x00000000 = .ok .nop ∧ decode 0x01000000 = .ok .ldk ∧ decode 0x02000000 = .ok .ldb ∧
  decode 0x03000000 = .ok .stb ∧ decode 0x04010000 = .ok (.strk 1) ∧
  decode 0x040A0000 = .ok (.strk 10) ∧ decode 0x05000000 = .ok .stg ∧
  decode 0x06010000 = .ok (.stsk 1) ∧ decode 0x06020000 = .ok (.stsk 2) ∧
  decode 0x10000000 = .ok .sub ∧ decode 0x11000000 = .ok .isub ∧ decode 0x12000000 = .ok .lin ∧
  decode 0x13000000 = .ok .ilin ∧ decode 0x20000000 = .ok .kexp ∧ decode 0x28000000 = .ok .encb ∧
  decode 0x29000000 = .ok .decb ∧ decode 0x30000000 = .ok (.minit .ecb 0) ∧
  decode 0x30010000 = .ok (.minit .ctr 0) ∧ decode 0x30020000 = .ok (.minit .ofb 0) ∧
  decode 0x30030000 = .ok (.minit .cbc 0) ∧ decode 0x30040000 = .ok (.minit .cfb 0) ∧
  decode 0x30040008 = .ok (.minit .cfb 8) ∧ decode 0x30040010 = .ok (.minit .cfb 16) ∧
  decode 0x30050000 = .ok (.minit .mac 0) ∧ decode 0x30050010 = .ok (.minit .mac 16) ∧
  decode 0x31000000 = .ok .mcfg ∧ decode 0x32000000 = .ok .menc ∧ decode 0x33000000 = .ok .mdec ∧
  (∀ w ∈ illegalExamples, ∀ i, decode w ≠ .ok i) ∧
  decode 0x040B0000 = .error .indexOutOfRange ∧ decode 0x30040011 = .error .sizeOutOfRange

/-! ### One step -/

/-- A step whose next event is a command word runs exactly the decoded command, on the state in which
that event is no longer to come (20_memory.md R63). On a faulted device the word is not even decoded
(60_exceptions.md R331): the equation holds there too, only because the model's `exec` itself ignores
every command on a faulted device (log entry 10, DEDUCED). -/
def Obligations.StepRunsTheDecodedCommand : Prop :=
  ∀ (s : State) (w : Word) (es : List Event) (i : Instr),
    s.inputs = .host (.cmd w) :: es → decode w = .ok i → step s = exec i (s.setInputs es)

/-- Every step and every command completes with a next state, and a step uses up exactly the next
event (10_state.md R31: every command terminates; 60_exceptions.md R330: a fault is a state). The
empty list of events is the model's way of saying that the host does nothing (log entry 4). -/
def Obligations.EveryStepCompletes : Prop :=
  (∀ s : State, ∃ t, step s = .next t ∧ t.inputs = s.inputs.tail) ∧
  (∀ (i : Instr) (s : State), ∃ t, exec i s = .next t ∧ t.inputs = s.inputs)

/-- An illegal word raises `IllegalCommand` and changes nothing else (30_encoding.md R97,
60_exceptions.md R325). -/
def Obligations.IllegalWordLatchesIllegalCommand : Prop :=
  ∀ (s : State) (w : Word) (es : List Event),
    s.inputs = .host (.cmd w) :: es → idle s → ¬ legalWord w →
      step s = .next { s with inputs := es, fault := some .illegalCommand }

/-! ### Faults -/

/-- A faulted device ignores `HostLoad` and `HostCmd` and still answers `HostStore` and `HostCsrRead`
(60_exceptions.md R331). -/
def Obligations.FaultedDeviceIgnoresLoadsAndCommands : Prop :=
  ∀ (s : State) (op : HostOp) (es : List Event),
    s.inputs = .host op :: es → s.fault ≠ none →
      match op with
      | .load _ => step s = .next { s with inputs := es }
      | .cmd _ => step s = .next { s with inputs := es }
      | .store =>
        step s = .next { s with inputs := es, replies := s.replies ++ [.bytes s.obuf.bytes] }
      | .csrRead c =>
        step s = .next { s with inputs := es, replies := s.replies ++ [.word (csrWord s c)] }

/-- A step that latches a fault changes nothing but the latch, which then shows the code of the fault,
its number in 60_exceptions.md R320; the event that raised it is used up (R330). -/
def Obligations.RaisedFaultChangesNothingElse : Prop :=
  ∀ (s t : State) (f : FaultCode), step s = .next t → idle s → t.fault = some f →
    t = { s with inputs := s.inputs.tail, fault := some f } ∧
      (csrWord t .status).extractLsb' 0 4 = f.code ∧ f.code.toNat = faultNumber (some f) ∧ 1 ≤ f.code.toNat ∧ f.code.toNat ≤ 7

/-- A latched fault code stays, and is never replaced by another, until reset
(60_exceptions.md R332). -/
def Obligations.LatchedFaultStaysUntilReset : Prop :=
  ∀ (s t : State) (f : FaultCode), step s = .next t → s.fault = some f → ¬ resets s →
    t.fault = some f

/-- The commands that need a register nothing has written raise `NotReady` and change nothing else,
whatever else is wrong with their input (60_exceptions.md R324, R329). -/
def Obligations.UnwrittenRegistersRaiseNotReady : Prop :=
  ∀ (s : State) (i : Instr), idle s → i.wf = true →
    ((s.keyv = false ∧ i = .kexp) ∨
     (s.rkv = false ∧ (i = .encb ∨ i = .decb ∨ (∃ k, i = .strk k) ∨ ∃ m n, i = .minit m n)) ∨
     (s.blkv = false ∧ (i = .stb ∨ i = .sub ∨ i = .isub ∨ i = .lin ∨ i = .ilin ∨ i = .encb ∨
        i = .decb)) ∨
     (s.miv = false ∧ (i = .mcfg ∨ i = .menc ∨ i = .mdec ∨ i = .stg ∨ ∃ j, i = .stsk j))) →
    exec i s = .next { s with fault := some .notReady }

/-- The gamma check of `MENC` and `MDEC`: each way to fail it, whatever the message
(43_mode_common.md R186). -/
def Obligations.GammaCheckFailsAsListed : Prop :=
  ∀ (s : State) (i : Instr), idle s → s.miv = true → (i = .menc ∨ i = .mdec) →
    ((s.mode = .ctr ∧ s.glen < 16) ∨ (s.mode = .ofb ∧ s.glen < 32) ∨ (s.mode = .cbc ∧ s.glen < 16) ∨
      (s.mode = .cfb ∧ (s.glen < 16 ∨ s.glen % s.seg ≠ 0)) →
      exec i s = .next { s with fault := some .configurationError }) ∧
    ((s.mode = .ctr ∧ 16 < s.glen) ∨ (s.mode = .ofb ∧ 32 < s.glen) →
      exec i s = .next { s with fault := some .refused })

/-- An input length that does not fit the command raises `ContractViolation`: `LDK`, `LDB`, and `MDEC`
once its gamma has passed (60_exceptions.md R323). -/
def Obligations.InputLengthFaults : Prop :=
  ∀ s : State, idle s →
    (s.ilen ≠ 32 → exec .ldk s = .next { s with fault := some .contractViolation }) ∧
    (s.ilen ≠ 16 → exec .ldb s = .next { s with fault := some .contractViolation }) ∧
    (s.miv = true → gammaReady s →
      ((s.mode = .ecb ∨ s.mode = .cbc) ∧ s.ilen % 16 ≠ 0) ∨ (s.mode = .cfb ∧ s.ilen % s.seg ≠ 0) →
      exec .mdec s = .next { s with fault := some .contractViolation })

/-- `MDEC` on a Mac instance and `STSK` on any other raise `UnsupportedOperation`, whatever the input
(60_exceptions.md R322). -/
def Obligations.UnsupportedOperationsAsListed : Prop :=
  ∀ s : State, idle s → s.miv = true →
    (s.mode = .mac → exec .mdec s = .next { s with fault := some .unsupportedOperation }) ∧
    (s.mode ≠ .mac → ∀ j, (Instr.stsk j).wf = true →
      exec (.stsk j) s = .next { s with fault := some .unsupportedOperation })

/-! ### The host's operations and the status registers -/

/-- `HostLoad(m)`: nothing on a faulted device, `CapacityExceeded` above `MMAX`, else the input buffer
holds exactly `m` and nothing else has changed (20_memory.md R62). -/
def Obligations.HostLoadReplacesTheInput : Prop :=
  ∀ (s : State) (m : List Byte) (es : List Event), s.inputs = .host (.load m) :: es →
    (s.fault ≠ none → step s = .next { s with inputs := es }) ∧
    (idle s → s.build.mmax < m.length →
      step s = .next { s with inputs := es, fault := some .capacityExceeded }) ∧
    (idle s → m.length ≤ s.build.mmax →
      ∃ t, step s = .next t ∧ t = { s with inputs := es, ibuf := t.ibuf } ∧ t.ilen = m.length ∧
        ∀ a, t.ibuf.read a = m[a]?)

/-- `HostStore()` returns the bytes of the output buffer, byte `i` from address `i`, and changes
nothing; after reset it returns the empty string (20_memory.md R64). -/
def Obligations.HostStoreReturnsTheOutput : Prop :=
  (∀ (s : State) (es : List Event), s.inputs = .host .store :: es → s.obuf.wf = true →
    ∃ m, step s = .next { s with inputs := es, replies := s.replies ++ [.bytes m] } ∧
      m.length = s.olen ∧ ∀ a, m[a]? = s.obuf.read a) ∧
  step (State.reset.withEvent (.host .store)) = .next { State.reset with replies := [.bytes []] }

/-- `HostCsrRead(n)` returns the register numbered `n` for each `n` of 0..6 and changes nothing, on a
faulted device too (20_memory.md R65). In a state with the invariant registers 2 to 6 show the three
lengths and the two capacities (10_state.md R36 to R39); the layouts of 0 and 1 have statements of their
own. Numbers above 6 name no register (R40). The invariant has MMAX + 16 below 2^32, the model's own
bound on a build (log entry 7, DEDUCED). -/
def Obligations.HostCsrReadReturnsTheRegister : Prop :=
  (∀ (s : State) (es : List Event) (n : Nat) (c : Csr), csrOfNumber n = some c →
    s.inputs = .host (.csrRead c) :: es →
    c.number = n ∧
    step s = .next { s with inputs := es, replies := s.replies ++ [.word (csrWord s c)] }) ∧
  (∀ n, csrOfNumber n ≠ none ↔ n ≤ 6) ∧
  csrOfNumber 0 = some .status ∧ csrOfNumber 1 = some .modecfg ∧
  (∀ (s : State) (n : Nat) (c : Csr), s.Inv → csrOfNumber n = some c →
    (n = 2 → (csrWord s c).toNat = s.ilen) ∧ (n = 3 → (csrWord s c).toNat = s.olen) ∧
    (n = 4 → (csrWord s c).toNat = s.glen) ∧ (n = 5 → (csrWord s c).toNat = s.build.mmax) ∧
    (n = 6 → (csrWord s c).toNat = s.build.gmax))

/-- The fields of `STATUS`, the number of each fault (0 for none, 1 to 7 as 60_exceptions.md R320 lists
them), the reset value and the example (10_state.md R34). -/
def Obligations.StatusRegisterLayout : Prop :=
  (∀ s : State,
    (csrWord s .status).extractLsb' 0 4 = faultField s.fault ∧
    ((csrWord s .status).extractLsb' 0 4).toNat = faultNumber s.fault ∧
    (csrWord s .status).getLsbD 4 = s.keyv ∧ (csrWord s .status).getLsbD 5 = s.blkv ∧
    (csrWord s .status).getLsbD 6 = s.rkv ∧ (csrWord s .status).getLsbD 7 = s.miv ∧
    (csrWord s .status).extractLsb' 8 24 = 0 ∧
    ((csrWord s .status).extractLsb' 0 4).toNat ≤ 7) ∧
  (∀ (s t u v : State) (m : Mode) (n : BitVec 16), s.blkv = false → exec .ldk s = .next t →
    exec .kexp t = .next u → exec (.minit m n) u = .next v → idle v →
    csrWord v .status = 0x000000D0) ∧
  csrWord State.reset .status = 0

/-- The fields of `MODECFG` with the mode's number of 30_encoding.md R96, its reserved bits, the defaults `MINIT` sets and the two examples
(10_state.md R35). -/
def Obligations.ModeConfigRegisterLayout : Prop :=
  (∀ s : State, sizesLegal s →
    ((csrWord s .modecfg).extractLsb' 0 3).toNat = s.mode.code ∧ s.mode.code ≤ 5 ∧
    s.mode.code = modeNumber s.mode ∧
    (csrWord s .modecfg).extractLsb' 3 5 = 0 ∧
    ((csrWord s .modecfg).extractLsb' 8 5).toNat = s.seg ∧
    (csrWord s .modecfg).extractLsb' 13 3 = 0 ∧
    ((csrWord s .modecfg).extractLsb' 16 5).toNat = s.taglen ∧
    (csrWord s .modecfg).extractLsb' 21 11 = 0) ∧
  csrWord State.reset .modecfg = 0x00081000 ∧
  (∀ (s t : State) (m : Mode) (n : BitVec 16), idle s → exec (.minit m n) s = .next t → idle t →
    (m ≠ .cfb → t.seg = 16) ∧ (m ≠ .mac → t.taglen = 8) ∧
    (m = .cfb → n = 8 → csrWord t .modecfg = 0x00080804))

/-- Reset, from any state and with any build, gives every value that 70_reset_and_hazards.md R361 and
10_state.md R42 state; the build and the host's side stay. Nothing is said of the registers that hold
no value (log entry 1). -/
def Obligations.ResetGivesTheStatedValues : Prop :=
  ∀ (s : State) (es : List Event), s.inputs = .reset :: es →
    ∃ t, step s = .next t ∧ t.fault = none ∧ t.keyv = false ∧ t.blkv = false ∧ t.rkv = false ∧
      t.miv = false ∧ t.ilen = 0 ∧ t.olen = 0 ∧ t.glen = 0 ∧ t.mode = .ecb ∧ t.seg = 16 ∧
      t.taglen = 8 ∧ t.build = s.build ∧ t.inputs = es ∧ t.replies = s.replies ∧
      csrWord t .status = 0 ∧ csrWord t .modecfg = 0x00081000 ∧ t.obuf.bytes = [] ∧
      csrWord t .capm = BitVec.ofNat 32 s.build.mmax ∧
      csrWord t .capg = BitVec.ofNat 32 s.build.gmax

/-! ### What can change what -/

/-- What sets and clears each validity bit (10_state.md R32). -/
def Obligations.ValidityBitsChangeOnlyAsListed : Prop :=
  ∀ s t : State, step s = .next t →
    (s.keyv = false → t.keyv = true → issues s .ldk) ∧ (s.keyv = true → t.keyv = false → resets s) ∧
    (s.blkv = false → t.blkv = true → issues s .ldb) ∧ (s.blkv = true → t.blkv = false → resets s) ∧
    (s.rkv = false → t.rkv = true → issues s .kexp) ∧
    (s.rkv = true → t.rkv = false → issues s .ldk ∨ resets s) ∧
    (s.miv = false → t.miv = true → ∃ m n, issues s (.minit m n)) ∧
    (s.miv = true → t.miv = false → resets s)

/-- The access matrix, its writes: a command writes only the registers listed for it, and the input
buffer and the build never (10_state.md R43, 20_memory.md R71). -/
def Obligations.CommandsWriteOnlyTheirRegisters : Prop :=
  ∀ (i : Instr) (s t : State), exec i s = .next t →
    (t.blk ≠ s.blk → i ∈ [.ldb, .sub, .isub, .lin, .ilin, .encb, .decb]) ∧
    (t.mkey ≠ s.mkey → i = .ldk) ∧
    (t.rk ≠ s.rk → i = .kexp) ∧
    (t.mrk ≠ s.mrk → ∃ m n, i = .minit m n) ∧
    (t.sk1 ≠ s.sk1 ∨ t.sk2 ≠ s.sk2 → ∃ n, i = .minit .mac n) ∧
    (t.gamma ≠ s.gamma → (∃ m n, i = .minit m n) ∨ i = .mcfg ∨
      ((i = .menc ∨ i = .mdec) ∧ s.mode ≠ .ecb ∧ s.mode ≠ .mac)) ∧
    (t.mode ≠ s.mode ∨ t.seg ≠ s.seg ∨ t.taglen ≠ s.taglen → ∃ m n, i = .minit m n) ∧
    (t.obuf ≠ s.obuf → i = .stb ∨ (∃ k, i = .strk k) ∨ i = .stg ∨ (∃ j, i = .stsk j) ∨ i = .menc ∨
      i = .mdec) ∧
    (∀ a, t.ibuf.read a = s.ibuf.read a) ∧ t.ilen = s.ilen ∧ t.build = s.build ∧
    t.inputs = s.inputs ∧ t.replies = s.replies

/-- HEADLINE. Every step keeps the invariant of the state, from every state that has it: canonical
buffers within their capacities, legal sizes and mode registers, round keys derived from the present
master key, Mac subkeys derived from the instance's round keys. Its builds are those of 00_scope.md R10
with MMAX + 16 below 2^32, the model's own bound (log entry 7, DEDUCED). -/
def Obligations.StepKeepsTheInvariant : Prop :=
  ∀ s t : State, s.Inv → step s = .next t → t.Inv

/-- The state after reset has the invariant, for the default build and for every build that
00_scope.md R10 allows whose longest output fits the 32-bit register `OLEN`: MMAX + 16 below 2^32, which
R10 does not ask for and the model does (log entry 7, DEDUCED). The default build of `State.reset` has
the values R10 gives. -/
def Obligations.ResetHasTheInvariant : Prop :=
  State.reset.Inv ∧ (∀ b : Build, b.Valid → (State.resetOf b).Inv) ∧
  State.reset.build.mmax = 4096 ∧ State.reset.build.omax = 4112 ∧ State.reset.build.gmax = 64 ∧
  State.reset.build.unpadRule = .lastAnywhere

/-- The contents of a register whose validity bit is 0 are never observed: two states that differ only
there take steps to two states that differ only there, and return the same replies (10_state.md R42).
So no statement about what the host sees rests on the reset values the model chose (log entries 1 to
3). -/
def Obligations.GuardedContentsAreUnobservable : Prop :=
  ∀ s t s' t' : State, s.SameView t → step s = .next s' → step t = .next t' → s'.SameView t'

/-! ### GaloisTransform -/

/-- The laws of the field multiplication and its listed values (40_galois_transform.md R125). -/
def Obligations.FieldMultiplicationLaws : Prop :=
  (∀ a b : Byte, gfMul a b = gfMul b a) ∧ (∀ a : Byte, gfMul a 0 = 0) ∧ (∀ a : Byte, gfMul a 1 = a) ∧
  (∀ a b c : Byte, gfMul a (b ^^^ c) = gfMul a b ^^^ gfMul a c) ∧
  (∀ a b : Byte, gfMul a b = 0 → a = 0 ∨ b = 0) ∧
  gfMul 0x02 0x80 = 0xc3 ∧ gfMul 0x02 0xc3 = 0x45 ∧ gfMul 0x94 0x02 = 0xeb ∧
  gfMul 0x94 0x94 = 0xa4 ∧ gfMul 0xff 0xff = 0x06 ∧ gfMul 0x80 0x80 = 0x77 ∧
  gfMul 0xfb 0x10 = 0x6b ∧ gfMul 0xc0 0xc2 = 0x59 ∧ gfMul 0x85 0x20 = 0xcd ∧
  gfMul 0x03 0x80 = 0x43

/-- The diffusion functions are linear and the substitutions are not (40_galois_transform.md R133). -/
def Obligations.DiffusionIsLinearSubstitutionIsNot : Prop :=
  (∀ u v : Block, rStep (xorBlock u v) = xorBlock (rStep u) (rStep v)) ∧
  (∀ u v : Block, rInvStep (xorBlock u v) = xorBlock (rInvStep u) (rInvStep v)) ∧
  (∀ u v : Block, lFwd (xorBlock u v) = xorBlock (lFwd u) (lFwd v)) ∧
  (∀ u v : Block, lInv (xorBlock u v) = xorBlock (lInv u) (lInv v)) ∧
  (∃ u v : Block, sFwd (xorBlock u v) ≠ xorBlock (sFwd u) (sFwd v)) ∧
  (∃ u v : Block, sInv (xorBlock u v) ≠ xorBlock (sInv u) (sInv v))

/-- The sixteen steps of the shift register are one matrix multiplication over GF(2^8), forward and
inverse, and row 15 of the forward matrix is `LC` (40_galois_transform.md R132). -/
def Obligations.DiffusionIsTheListedMatrix : Prop :=
  (∀ (v : Block) (i : Fin 16), (lFwd v)[i] = matrixRow linMatrix v i) ∧
  (∀ (v : Block) (i : Fin 16), (lInv v)[i] = matrixRow linInvMatrix v i) ∧
  linMatrix.getD 15 [] = lc

/-- The four functions are two inverse pairs (40_galois_transform.md R123, R131), `PI` is a permutation
of the bytes with inverse `PI_INV` (R122), and it has the values R121 prints: the whole table, the five
values R121 names, the three of `PI_INV` that R122 names, and the example of R123. -/
def Obligations.TransformsAreInversePairs : Prop :=
  (∀ b : Byte, piInvAt (piAt b) = b ∧ piAt (piInvAt b) = b) ∧
  (∀ v : Block, sInv (sFwd v) = v ∧ sFwd (sInv v) = v) ∧
  (∀ v : Block, lInv (lFwd v) = v ∧ lFwd (lInv v) = v) ∧
  (∀ b : Byte, (piAt b).toNat = substitutionTable.getD b.toNat 0) ∧
  piAt 0x00 = 0xfc ∧ piAt 0x01 = 0xee ∧ piAt 0x10 = 0xe9 ∧ piAt 0xa5 = 0x00 ∧ piAt 0xff = 0xb6 ∧
  piInvAt 0x00 = 0xa5 ∧ piInvAt 0xfc = 0x00 ∧ piInvAt 0xb6 = 0xff ∧
  sFwd (block 0xffeeddccbbaa99881122334455667700) = block 0xb66cd8887d38e8d77765aeea0c9a7efc

/-- `SUB` and `ISUB` complete on a written block, replace each byte by its table entry, and change
nothing else (40_galois_transform.md R134, R135, R123). -/
def Obligations.SubstituteCommandsActBytewise : Prop :=
  ∀ s : State, idle s → s.blkv = true →
    (∃ t, exec .sub s = .next t ∧ t = { s with blk := t.blk } ∧
      ∀ i : Fin 16, t.blk[i] = piAt s.blk[i]) ∧
    (∃ t, exec .isub s = .next t ∧ t = { s with blk := t.blk } ∧
      ∀ i : Fin 16, t.blk[i] = piInvAt s.blk[i])

/-- `LIN` and `ILIN` complete on a written block, give the matrix product of 40_galois_transform.md
R132, and change nothing else (R136, R137). -/
def Obligations.DiffusionCommandsApplyTheMatrix : Prop :=
  ∀ s : State, idle s → s.blkv = true →
    (∃ t, exec .lin s = .next t ∧ t = { s with blk := t.blk } ∧
      ∀ i : Fin 16, t.blk[i] = matrixRow linMatrix s.blk i) ∧
    (∃ t, exec .ilin s = .next t ∧ t = { s with blk := t.blk } ∧
      ∀ i : Fin 16, t.blk[i] = matrixRow linInvMatrix s.blk i)

/-- Each of the six computing commands is undone by its inverse, whole state included
(40_galois_transform.md R135, R137; 42_block_cipher.md R169). -/
def Obligations.InverseCommandsUndoEachOther : Prop :=
  ∀ (s t : State) (i j : Instr), idle s → s.blkv = true → (i = .encb ∨ i = .decb → s.rkv = true) →
    (i, j) ∈ [(Instr.sub, Instr.isub), (.isub, .sub), (.lin, .ilin), (.ilin, .lin), (.encb, .decb),
      (.decb, .encb)] →
    exec i s = .next t → exec j t = .next s

/-! ### KeySchedule and BlockCipher -/

/-- `KEXP` completes when a key is loaded: round keys 1 and 2 are the halves of the key, each later
pair is eight Feistel rounds from the pair before it, `RKV` is set, and nothing else changes
(41_key_schedule.md R152, R153, R154). -/
def Obligations.KeyExpansionCommand : Prop :=
  ∀ s : State, idle s → s.keyv = true →
    ∃ t, exec .kexp s = .next t ∧ t = { s with rk := t.rk, rkv := true } ∧
      (t.rk[0].toList ++ t.rk[1].toList = s.mkey.toList) ∧
      ∀ i : Fin 4, ∃ p : Nat → Block × Block,
        p 0 = (roundKey t.rk (2 * i + 1), roundKey t.rk (2 * i + 2)) ∧
        (∀ k, k < 8 → p (k + 1) =
          (xorBlock (p k).2 (lFwd (sFwd (xorBlock (p k).1
            (lFwd (block (8 * i + k + 1)))))), (p k).1)) ∧
        p 8 = (roundKey t.rk (2 * i + 3), roundKey t.rk (2 * i + 4))

/-- The last byte of a round constant is its index (41_key_schedule.md R151), for every index a byte
can hold. -/
def Obligations.RoundConstantEndsInItsIndex : Prop :=
  ∀ j : Nat, j < 256 → (roundConst j)[15].toNat = j

/-- Encryption and decryption of a block undo each other under any ten round keys
(42_block_cipher.md R167). -/
def Obligations.BlockCipherRoundTrip : Prop :=
  ∀ (keys : RoundKeys) (b : Block),
    decBlock keys (encBlock keys b) = b ∧ encBlock keys (decBlock keys b) = b

/-- `ENCB` and `DECB` complete when round keys and a block are there, run the nine rounds of
42_block_cipher.md R165 and R166 under `RK`, and change nothing but `BLK` (R168, R169). -/
def Obligations.BlockCommandsRunNineRounds : Prop :=
  ∀ s : State, idle s → s.rkv = true → s.blkv = true →
    (∃ t, exec .encb s = .next t ∧ t = { s with blk := t.blk } ∧
      ∃ x : Nat → Block, x 0 = s.blk ∧
        (∀ k, k < 9 → x (k + 1) = lFwd (sFwd (xorBlock (x k) (roundKey s.rk (k + 1))))) ∧
        t.blk = xorBlock (x 9) (roundKey s.rk 10)) ∧
    (∃ t, exec .decb s = .next t ∧ t = { s with blk := t.blk } ∧
      ∃ x : Nat → Block, x 0 = s.blk ∧
        (∀ k, k < 9 → x (k + 1) = sInv (lInv (xorBlock (x k) (roundKey s.rk (10 - k))))) ∧
        t.blk = xorBlock (x 9) (roundKey s.rk 1))

/-! ### Data movement and system commands -/

/-- `NOP` changes nothing, in any state (47_host_data_and_system.md R290). -/
def Obligations.NopChangesNothing : Prop := ∀ s : State, exec .nop s = .next s

/-- `LDK` with 32 bytes of input completes: the key is the input byte for byte, `KEYV` is set, `RKV` is
cleared, nothing else changes, and the round keys stay (47_host_data_and_system.md R291). -/
def Obligations.LoadKeyCommand : Prop :=
  ∀ s : State, idle s → s.ilen = 32 →
    ∃ t, exec .ldk s = .next t ∧ t = { s with mkey := t.mkey, keyv := true, rkv := false } ∧
      ∀ i : Fin 32, some t.mkey[i] = s.message[i.val]?

/-- `LDB` with 16 bytes of input completes: the block is the input byte for byte, `BLKV` is set and
nothing else changes (47_host_data_and_system.md R292). -/
def Obligations.LoadBlockCommand : Prop :=
  ∀ s : State, idle s → s.ilen = 16 →
    ∃ t, exec .ldb s = .next t ∧ t = { s with blk := t.blk, blkv := true } ∧
      ∀ i : Fin 16, some t.blk[i] = s.message[i.val]?

/-- `STB` and `STRK i` complete when their register is valid: the output buffer becomes exactly the
sixteen bytes of the block or of round key `i`, address by address, and nothing else changes
(47_host_data_and_system.md R293, R294). -/
def Obligations.StoreBlockAndRoundKeyCommands : Prop :=
  ∀ s : State, idle s →
    (s.blkv = true →
      ∃ t, exec .stb s = .next t ∧ t = { s with obuf := t.obuf } ∧ t.olen = 16 ∧
        ∀ a, t.obuf.read a = s.blk.toList[a]?) ∧
    (s.rkv = true → ∀ i : Fin 10,
      ∃ t, exec (.strk (BitVec.ofNat 8 (i + 1))) s = .next t ∧ t = { s with obuf := t.obuf } ∧
        t.olen = 16 ∧ ∀ a, t.obuf.read a = s.rk[i].toList[a]?)

/-- `STG` completes on any instance and `STSK` on a Mac instance: the output buffer becomes exactly the
gamma, or the subkey, address by address, and nothing else changes
(47_host_data_and_system.md R295, R296). -/
def Obligations.StoreGammaAndSubkeyCommands : Prop :=
  ∀ s : State, idle s → s.miv = true →
    (∃ t, exec .stg s = .next t ∧ t = { s with obuf := t.obuf } ∧ t.olen = s.glen ∧
      ∀ a, t.obuf.read a = s.gamma[a]?) ∧
    (s.mode = .mac →
      (∃ t, exec (.stsk 1) s = .next t ∧ t = { s with obuf := t.obuf } ∧ t.olen = 16 ∧
        ∀ a, t.obuf.read a = s.sk1.toList[a]?) ∧
      (∃ t, exec (.stsk 2) s = .next t ∧ t = { s with obuf := t.obuf } ∧ t.olen = 16 ∧
        ∀ a, t.obuf.read a = s.sk2.toList[a]?))

/-! ### ModeLayer -/

/-- `MINIT` completes when round keys are there: the instance has its mode, its own copy of the round
keys, its sizes with their defaults, an empty gamma, and for Mac its two subkeys; nothing else changes
(43_mode_common.md R184, 46_mode_mac.md R271). -/
def Obligations.MinitBuildsTheInstance : Prop :=
  ∀ (s : State) (m : Mode) (n : BitVec 16), idle s → s.rkv = true → (Instr.minit m n).wf = true →
    ∃ t, exec (.minit m n) s = .next t ∧
      t = { s with
        mode := m, mrk := s.rk, seg := t.seg, taglen := t.taglen, gamma := [], miv := true,
        sk1 := t.sk1, sk2 := t.sk2 } ∧
      (m = .cfb → t.seg = if n = 0 then 16 else n.toNat) ∧ (m ≠ .cfb → t.seg = 16) ∧
      (m = .mac → t.taglen = if n = 0 then 8 else n.toNat) ∧ (m ≠ .mac → t.taglen = 8) ∧
      (m = .mac → t.sk1 = gf128Double (encBlock s.rk zeroBlock) ∧ t.sk2 = gf128Double t.sk1) ∧
      sizesLegal t

/-- `MCFG` completes on any instance with an input of at most `GMAX` bytes and stores it as the gamma;
a longer input raises `CapacityExceeded`; nothing else changes (43_mode_common.md R185). -/
def Obligations.McfgStoresTheGamma : Prop :=
  ∀ s : State, idle s → s.miv = true →
    (s.ilen ≤ s.build.gmax →
      ∃ t, exec .mcfg s = .next t ∧ t = { s with gamma := t.gamma } ∧ t.glen = s.ilen ∧
        ∀ i : Nat, t.gamma[i]? = s.message[i]?) ∧
    (s.build.gmax < s.ilen → exec .mcfg s = .next { s with fault := some .capacityExceeded })

/-- Ecb: `MENC` completes and encrypts each block of the padded message by itself; `MDEC` completes on
whole blocks and decrypts each by itself, then unpads (44_modes_ecb_ctr_ofb.md R210, R211). -/
def Obligations.EcbTreatsEachBlockByItself : Prop :=
  ∀ s : State, inMode s .ecb →
    (∃ t, exec .menc s = .next t ∧ t = { s with obuf := t.obuf } ∧
      t.olen = 16 * paddedBlocks s.ilen ∧
      ∀ k, k < paddedBlocks s.ilen →
        slice t.obuf.bytes (16 * k) 16 = cipher s (slice (pad s.message 16) (16 * k) 16)) ∧
    (s.ilen % 16 = 0 →
      ∃ t p, exec .mdec s = .next t ∧ t = { s with obuf := t.obuf } ∧ p.length = s.ilen ∧
        t.obuf.bytes = unpad s.build.unpadRule p ∧
        ∀ k, k < s.ilen / 16 →
          slice p (16 * k) 16 = decipher s (slice s.message (16 * k) 16))

/-- Ctr: `MENC` and `MDEC` complete with a 16-byte gamma; byte `j` of the output is byte `j` of the
message XOR byte `j mod 16` of the encrypted counter, which starts at the gamma as a big-endian number
and goes up by 1 each block modulo 2^128; the gamma advances by the number of blocks
(44_modes_ecb_ctr_ofb.md R212, R213). -/
def Obligations.CtrEncryptsAnIncreasingCounter : Prop :=
  ∀ (s : State) (i : Instr), inMode s .ctr → s.glen = 16 → (i = .menc ∨ i = .mdec) →
    ∃ t, exec i s = .next t ∧ t = { s with obuf := t.obuf, gamma := t.gamma } ∧
      t.olen = s.ilen ∧ t.glen = 16 ∧ be t.gamma = (be s.gamma + (s.ilen + 15) / 16) % 2 ^ 128 ∧
      ∀ j, j < s.ilen →
        t.obuf.bytes.getD j 0 = s.message.getD j 0 ^^^
          (cipher s (bytesBE 16 ((be s.gamma + j / 16) % 2 ^ 128))).getD (j % 16) 0

/-- Ofb: `MENC` and `MDEC` complete with a 32-byte gamma; the register's blocks go on by encryption
alone, two deep, so the keystream does not depend on the message; the last two are the gamma
afterwards (44_modes_ecb_ctr_ofb.md R214). -/
def Obligations.OfbShiftsTheKeystreamAlone : Prop :=
  ∀ (s : State) (i : Instr), inMode s .ofb → s.glen = 32 → (i = .menc ∨ i = .mdec) →
    ∃ t, exec i s = .next t ∧ t = { s with obuf := t.obuf, gamma := t.gamma } ∧ t.olen = s.ilen ∧
      ∃ r : Nat → List Byte, r 0 = slice s.gamma 0 16 ∧ r 1 = slice s.gamma 16 16 ∧
        (∀ k, r (k + 2) = cipher s (r k)) ∧
        t.gamma = r ((s.ilen + 15) / 16) ++ r ((s.ilen + 15) / 16 + 1) ∧
        ∀ j, j < s.ilen →
          t.obuf.bytes.getD j 0 = s.message.getD j 0 ^^^ (r (j / 16 + 2)).getD (j % 16) 0

/-- Cbc: `MENC` completes with a gamma of at least 16 bytes; with the window `gamma || ciphertext`,
block `k` is the encryption of plaintext block `k` XOR window bytes `16k` to `16k + 15`; `MDEC` is the
inverse over the same window; the gamma afterwards is the window's tail
(45_modes_cbc_cfb.md R240, R241). -/
def Obligations.CbcChainsThroughTheWindow : Prop :=
  ∀ s : State, inMode s .cbc → 16 ≤ s.glen →
    (∃ t out, exec .menc s = .next t ∧ t = { s with obuf := t.obuf, gamma := t.gamma } ∧
      t.obuf.bytes = out ∧ out.length = 16 * paddedBlocks s.ilen ∧
      t.gamma = (s.gamma ++ out).drop out.length ∧
      ∀ k, k < paddedBlocks s.ilen →
        slice out (16 * k) 16 = cipher s (xorBytes (slice (pad s.message 16) (16 * k) 16)
          (slice (s.gamma ++ out) (16 * k) 16))) ∧
    (s.ilen % 16 = 0 →
      ∃ t p, exec .mdec s = .next t ∧ t = { s with obuf := t.obuf, gamma := t.gamma } ∧
        p.length = s.ilen ∧ t.obuf.bytes = unpad s.build.unpadRule p ∧
        t.gamma = (s.gamma ++ s.message).drop s.ilen ∧
        ∀ k, k < s.ilen / 16 →
          slice p (16 * k) 16 = xorBytes (decipher s (slice s.message (16 * k) 16))
            (slice (s.gamma ++ s.message) (16 * k) 16))

/-- Cfb: `MENC` completes with a gamma of whole segments and at least 16 bytes, padding only a ragged
message; with the window `gamma || ciphertext`, segment `k` is the plaintext segment XOR the first
`SEG` bytes of the encrypted window bytes `SEG*k` to `SEG*k + 15`; `MDEC` uses encryption too, and
always unpads (45_modes_cbc_cfb.md R242, R243). -/
def Obligations.CfbFeedsBackTheCiphertext : Prop :=
  ∀ s : State, inMode s .cfb → 16 ≤ s.glen → s.glen % s.seg = 0 → sizesLegal s →
    (∃ t p out, exec .menc s = .next t ∧ t = { s with obuf := t.obuf, gamma := t.gamma } ∧
      (s.ilen % s.seg = 0 → p = s.message) ∧ (s.ilen % s.seg ≠ 0 → p = pad s.message s.seg) ∧
      t.obuf.bytes = out ∧ out.length = p.length ∧
      t.gamma = (s.gamma ++ out).drop out.length ∧
      ∀ k, k < p.length / s.seg →
        slice out (s.seg * k) s.seg = xorBytes (slice p (s.seg * k) s.seg)
          ((cipher s (slice (s.gamma ++ out) (s.seg * k) 16)).take s.seg)) ∧
    (s.ilen % s.seg = 0 →
      ∃ t p, exec .mdec s = .next t ∧ t = { s with obuf := t.obuf, gamma := t.gamma } ∧
        p.length = s.ilen ∧ t.obuf.bytes = unpad s.build.unpadRule p ∧
        t.gamma = (s.gamma ++ s.message).drop s.ilen ∧
        ∀ k, k < s.ilen / s.seg →
          slice p (s.seg * k) s.seg = xorBytes (slice s.message (s.seg * k) s.seg)
            ((cipher s (slice (s.gamma ++ s.message) (s.seg * k) 16)).take s.seg))

/-- Mac: `MENC` completes on a message of at least one byte; the tag is the first `TAGLEN` bytes of the
last cipher output of the chain from the zero block, with `SK1` for an aligned message and `SK2` for a
padded one; nothing but the output buffer changes. The empty message is refused
(46_mode_mac.md R272). -/
def Obligations.MacTagOfTheMessage : Prop :=
  ∀ s : State, inMode s .mac → sizesLegal s →
    (s.ilen = 0 → exec .menc s = .next { s with fault := some .refused }) ∧
    (0 < s.ilen → ∃ t p q k, exec .menc s = .next t ∧ t = { s with obuf := t.obuf } ∧ t.olen = s.taglen ∧
      (s.ilen % 16 = 0 → p = s.message ∧ k = s.sk1) ∧
      (s.ilen % 16 ≠ 0 → p = pad s.message 16 ∧ k = s.sk2) ∧
      p.length = 16 * (q + 1) ∧
      ∃ acc : Nat → Block, acc 0 = zeroBlock ∧
        (∀ n, n < q → acc (n + 1) =
          encBlock s.mrk (xorBlock (acc n) (blockOf (slice p (16 * n) 16)))) ∧
        t.obuf.bytes = (encBlock s.mrk (xorBlock (xorBlock (acc q) k)
          (blockOf (slice p (16 * q) 16)))).toList.take s.taglen)

/-- The output lengths of the mode commands, that the output stands in a buffer of the canonical form
(byte `i` at address `i`), and that `GLEN` never changes (43_mode_common.md R190, R187). -/
def Obligations.ModeCommandLengths : Prop :=
  ∀ s : State, idle s → s.miv = true → gammaReady s → sizesLegal s →
    ((s.mode = .mac → 0 < s.ilen) → ∃ t, exec .menc s = .next t ∧ t.fault = none ∧ t.glen = s.glen ∧
      t.obuf.wf = true ∧ t.olen ≤ s.ilen + 16 ∧
      ((s.mode = .ecb ∨ s.mode = .cbc) → t.olen = 16 * (s.ilen / 16 + 1)) ∧
      ((s.mode = .ctr ∨ s.mode = .ofb) → t.olen = s.ilen) ∧
      (s.mode = .cfb → t.olen =
        if s.ilen % s.seg = 0 then s.ilen else s.seg * (s.ilen / s.seg + 1)) ∧
      (s.mode = .mac → t.olen = s.taglen)) ∧
    (s.mode ≠ .mac → ((s.mode = .ecb ∨ s.mode = .cbc) → s.ilen % 16 = 0) →
      (s.mode = .cfb → s.ilen % s.seg = 0) →
      ∃ t, exec .mdec s = .next t ∧ t.fault = none ∧ t.glen = s.glen ∧ t.obuf.wf = true ∧
        t.olen ≤ s.ilen ∧
        ((s.mode = .ctr ∨ s.mode = .ofb) → t.olen = s.ilen) ∧
        (s.ilen = 0 → t.olen = 0 ∧ t.gamma = s.gamma))

/-- D0's first property: in Ecb, Ctr, Ofb and Cbc, decrypting what was just encrypted, with the gamma
reset to what it was, gives the message back and leaves the gamma as encryption left it
(44_modes_ecb_ctr_ofb.md R211, R213, R214; 45_modes_cbc_cfb.md R241). -/
def Obligations.ModesDecryptWhatTheyEncrypt : Prop :=
  ∀ s : State, idle s → s.miv = true → gammaReady s → s.mode ≠ .cfb → s.mode ≠ .mac →
    ∃ t v, exec .menc s = .next t ∧
      exec .mdec { t with gamma := s.gamma, ibuf := t.obuf } = .next v ∧
      v.fault = none ∧ v.obuf.bytes = s.message ∧ v.gamma = t.gamma

/-- In Cfb the round trip holds exactly when the message was ragged or survives the unpadding scan
(45_modes_cbc_cfb.md R243, the hazard of 70_reset_and_hazards.md R366). -/
def Obligations.CfbRoundTripExactlyWhenUnpaddingSpares : Prop :=
  ∀ s : State, inMode s .cfb → gammaReady s → sizesLegal s →
    ∃ t v, exec .menc s = .next t ∧
      exec .mdec { t with gamma := s.gamma, ibuf := t.obuf } = .next v ∧
      v.fault = none ∧ v.gamma = t.gamma ∧
      (v.obuf.bytes = s.message ↔
        s.ilen % s.seg ≠ 0 ∨ survivesUnpad s.build.unpadRule s.message)

/-- In Ctr two commands, the first on whole blocks, give the same bytes and the same gamma as one
command on the joined message (43_mode_common.md R189). -/
def Obligations.CtrSplitsAtBlockBoundaries : Prop :=
  ∀ (s : State) (a b : List Byte), inMode s .ctr → s.glen = 16 → a.length % 16 = 0 →
    ∃ t u v, exec .menc { s with ibuf := Memory.ofBytes a } = .next t ∧
      exec .menc { t with ibuf := Memory.ofBytes b } = .next u ∧
      exec .menc { s with ibuf := Memory.ofBytes (a ++ b) } = .next v ∧
      v.obuf.bytes = t.obuf.bytes ++ u.obuf.bytes ∧ v.gamma = u.gamma

/-- A new master key and a new expansion do not affect a live mode instance: its commands give the same
output and gamma as before (10_state.md R25, 43_mode_common.md R189). -/
def Obligations.KeyChangeLeavesTheInstanceAlone : Prop :=
  ∀ (s t u : State) (i j : Instr), (i = .ldk ∨ i = .kexp) → (j = .menc ∨ j = .mdec) →
    exec i s = .next t → t.fault = none → exec j s = .next u →
    ∃ v, exec j t = .next v ∧ v.obuf = u.obuf ∧ v.gamma = u.gamma ∧ v.fault = u.fault

/-! ### Padding, the counter and the doubling -/

/-- Padding appends the mark, then zeros, up to the next multiple of the block size; it is never empty
(43_mode_common.md R181). -/
def Obligations.PaddingGrowsToTheNextMultiple : Prop :=
  ∀ (m : List Byte) (s : Nat), 1 ≤ s →
    (pad m s).length = s * (m.length / s + 1) ∧ m.length < (pad m s).length ∧
    (pad m s).length ≤ m.length + s ∧ (pad m s).take m.length = m ∧
    (pad m s)[m.length]? = some 0x80 ∧
    ∀ i, m.length < i → i < (pad m s).length → (pad m s)[i]? = some 0

/-- Unpadding undoes padding under both readings (43_mode_common.md R183). -/
def Obligations.UnpaddingUndoesPadding : Prop :=
  ∀ (r : UnpadRule) (m : List Byte) (s : Nat), unpad r (pad m s) = m

/-- What each reading of the unpadding scan does with every string, and where the two differ
(43_mode_common.md R182). -/
def Obligations.UnpaddingScansAsRead : Prop :=
  (∀ m : List Byte, (0x80 : Byte) ∉ m → ∀ r, unpad r m = m) ∧
  (∀ u v : List Byte, (0x80 : Byte) ∉ v → unpad .lastAnywhere (u ++ 0x80 :: v) = u) ∧
  (∀ (u : List Byte) (n : Nat), unpad .zerosThenMark (u ++ 0x80 :: zeros n) = u) ∧
  (∀ m : List Byte, (∀ u n, m ≠ u ++ (0x80 : Byte) :: zeros n) → unpad .zerosThenMark m = m) ∧
  (∀ u v : List Byte, (0x80 : Byte) ∉ v →
    (unpad .lastAnywhere (u ++ 0x80 :: v) ≠ unpad .zerosThenMark (u ++ 0x80 :: v) ↔
      ∃ b ∈ v, b ≠ 0))

/-- The ripple-carry increment adds 1 to the gamma as a big-endian number, modulo its range, and keeps
its length; the listed values (44_modes_ecb_ctr_ofb.md R212). -/
def Obligations.CounterIncrementAddsOne : Prop :=
  (∀ g : List Byte, (ctrInc g).length = g.length ∧ be (ctrInc g) = (be g + 1) % 256 ^ g.length) ∧
  ctrInc (bytesBE 16 0) = bytesBE 16 1 ∧ ctrInc (bytesBE 16 0xff) = bytesBE 16 0x100 ∧
  ctrInc (bytesBE 16 0xffff) = bytesBE 16 0x10000 ∧
  ctrInc (bytesBE 16 0x1234567890abcef0ffffffffffffffff) =
    bytesBE 16 0x1234567890abcef10000000000000000 ∧
  ctrInc (bytesBE 16 0xffffffffffffffffffffffffffffffff) = bytesBE 16 0

/-- The doubling is one 128-bit left shift of the big-endian value, with 0x87 into the last byte when
the top bit was 1; the listed values (46_mode_mac.md R270). -/
def Obligations.DoublingIsAShiftWithReduction : Prop :=
  (∀ v : Block,
    (be v.toList < 2 ^ 127 → be (gf128Double v).toList = 2 * be v.toList) ∧
    (2 ^ 127 ≤ be v.toList →
      be (gf128Double v).toList = (2 * be v.toList % 2 ^ 128) ^^^ 0x87)) ∧
  gf128Double (block 0) = block 0 ∧ gf128Double (block 1) = block 2 ∧
  gf128Double (block 0x40000000000000000000000000000000) =
    block 0x80000000000000000000000000000000 ∧
  gf128Double (block 0x80000000000000000000000000000000) = block 0x87 ∧
  gf128Double (block 0xffffffffffffffffffffffffffffffff) =
    block 0xffffffffffffffffffffffffffffff79 ∧
  gf128Double (block 0x0123456789abcdeffedcba9876543210) =
    block 0x02468acf13579bdffdb97530eca86420

/-! ### What the host loads it gets back -/

/-- What the host loads it gets back: `LDB` of 16 bytes completes, and `STB` after it returns exactly
those bytes and changes nothing but the output buffer; `LDK` of 32 bytes completes, and after it `KEXP`,
`STRK 1` and `STRK 2` complete and return the two halves of those bytes
(47_host_data_and_system.md R291 to R294, 41_key_schedule.md R153). -/
def Obligations.LoadedBytesComeBackWhole : Prop :=
  ∀ s : State, idle s →
    (s.ilen = 16 → ∃ t u, exec .ldb s = .next t ∧ exec .stb t = .next u ∧
      u = { s with blk := t.blk, blkv := true, obuf := u.obuf } ∧ u.olen = 16 ∧
      ∀ a, u.obuf.read a = s.message[a]?) ∧
    (s.ilen = 32 → ∃ t u v w, exec .ldk s = .next t ∧ exec .kexp t = .next u ∧
      exec (.strk 1) u = .next v ∧ exec (.strk 2) v = .next w ∧ w.fault = none ∧
      v.obuf.bytes ++ w.obuf.bytes = s.message)
end

