-- ==== Sys2Proof/Laws/State.lean ====
section
/-!
SUPPORT. What each update of the state leaves in each field, so that no proof unfolds a record update.
-/

namespace Sys2Proof.Machine

@[simp] theorem State.setInput_blk (s : State) (m : List Byte) : (s.setInput m).blk = s.blk := rfl
@[simp] theorem State.setInput_blkv (s : State) (m : List Byte) : (s.setInput m).blkv = s.blkv := rfl
@[simp] theorem State.setInput_mkey (s : State) (m : List Byte) : (s.setInput m).mkey = s.mkey := rfl
@[simp] theorem State.setInput_keyv (s : State) (m : List Byte) : (s.setInput m).keyv = s.keyv := rfl
@[simp] theorem State.setInput_rk (s : State) (m : List Byte) : (s.setInput m).rk = s.rk := rfl
@[simp] theorem State.setInput_rkv (s : State) (m : List Byte) : (s.setInput m).rkv = s.rkv := rfl
@[simp] theorem State.setInput_mrk (s : State) (m : List Byte) : (s.setInput m).mrk = s.mrk := rfl
@[simp] theorem State.setInput_sk1 (s : State) (m : List Byte) : (s.setInput m).sk1 = s.sk1 := rfl
@[simp] theorem State.setInput_sk2 (s : State) (m : List Byte) : (s.setInput m).sk2 = s.sk2 := rfl
@[simp] theorem State.setInput_gamma (s : State) (m : List Byte) : (s.setInput m).gamma = s.gamma := rfl
@[simp] theorem State.setInput_mode (s : State) (m : List Byte) : (s.setInput m).mode = s.mode := rfl
@[simp] theorem State.setInput_seg (s : State) (m : List Byte) : (s.setInput m).seg = s.seg := rfl
@[simp] theorem State.setInput_taglen (s : State) (m : List Byte) : (s.setInput m).taglen = s.taglen := rfl
@[simp] theorem State.setInput_miv (s : State) (m : List Byte) : (s.setInput m).miv = s.miv := rfl
@[simp] theorem State.setInput_ibuf (s : State) (m : List Byte) : (s.setInput m).ibuf = Memory.ofBytes m := rfl
@[simp] theorem State.setInput_obuf (s : State) (m : List Byte) : (s.setInput m).obuf = s.obuf := rfl
@[simp] theorem State.setInput_fault (s : State) (m : List Byte) : (s.setInput m).fault = s.fault := rfl
@[simp] theorem State.setInput_build (s : State) (m : List Byte) : (s.setInput m).build = s.build := rfl
@[simp] theorem State.setInput_inputs (s : State) (m : List Byte) : (s.setInput m).inputs = s.inputs := rfl
@[simp] theorem State.setInput_replies (s : State) (m : List Byte) : (s.setInput m).replies = s.replies := rfl

@[simp] theorem State.output_blk (s : State) (m : List Byte) : (s.output m).blk = s.blk := rfl
@[simp] theorem State.output_blkv (s : State) (m : List Byte) : (s.output m).blkv = s.blkv := rfl
@[simp] theorem State.output_mkey (s : State) (m : List Byte) : (s.output m).mkey = s.mkey := rfl
@[simp] theorem State.output_keyv (s : State) (m : List Byte) : (s.output m).keyv = s.keyv := rfl
@[simp] theorem State.output_rk (s : State) (m : List Byte) : (s.output m).rk = s.rk := rfl
@[simp] theorem State.output_rkv (s : State) (m : List Byte) : (s.output m).rkv = s.rkv := rfl
@[simp] theorem State.output_mrk (s : State) (m : List Byte) : (s.output m).mrk = s.mrk := rfl
@[simp] theorem State.output_sk1 (s : State) (m : List Byte) : (s.output m).sk1 = s.sk1 := rfl
@[simp] theorem State.output_sk2 (s : State) (m : List Byte) : (s.output m).sk2 = s.sk2 := rfl
@[simp] theorem State.output_gamma (s : State) (m : List Byte) : (s.output m).gamma = s.gamma := rfl
@[simp] theorem State.output_mode (s : State) (m : List Byte) : (s.output m).mode = s.mode := rfl
@[simp] theorem State.output_seg (s : State) (m : List Byte) : (s.output m).seg = s.seg := rfl
@[simp] theorem State.output_taglen (s : State) (m : List Byte) : (s.output m).taglen = s.taglen := rfl
@[simp] theorem State.output_miv (s : State) (m : List Byte) : (s.output m).miv = s.miv := rfl
@[simp] theorem State.output_ibuf (s : State) (m : List Byte) : (s.output m).ibuf = s.ibuf := rfl
@[simp] theorem State.output_obuf (s : State) (m : List Byte) : (s.output m).obuf = Memory.ofBytes m := rfl
@[simp] theorem State.output_fault (s : State) (m : List Byte) : (s.output m).fault = s.fault := rfl
@[simp] theorem State.output_build (s : State) (m : List Byte) : (s.output m).build = s.build := rfl
@[simp] theorem State.output_inputs (s : State) (m : List Byte) : (s.output m).inputs = s.inputs := rfl
@[simp] theorem State.output_replies (s : State) (m : List Byte) : (s.output m).replies = s.replies := rfl

@[simp] theorem State.setBlk_blk (s : State) (b : Block) : (s.setBlk b).blk = b := rfl
@[simp] theorem State.setBlk_blkv (s : State) (b : Block) : (s.setBlk b).blkv = s.blkv := rfl
@[simp] theorem State.setBlk_mkey (s : State) (b : Block) : (s.setBlk b).mkey = s.mkey := rfl
@[simp] theorem State.setBlk_keyv (s : State) (b : Block) : (s.setBlk b).keyv = s.keyv := rfl
@[simp] theorem State.setBlk_rk (s : State) (b : Block) : (s.setBlk b).rk = s.rk := rfl
@[simp] theorem State.setBlk_rkv (s : State) (b : Block) : (s.setBlk b).rkv = s.rkv := rfl
@[simp] theorem State.setBlk_mrk (s : State) (b : Block) : (s.setBlk b).mrk = s.mrk := rfl
@[simp] theorem State.setBlk_sk1 (s : State) (b : Block) : (s.setBlk b).sk1 = s.sk1 := rfl
@[simp] theorem State.setBlk_sk2 (s : State) (b : Block) : (s.setBlk b).sk2 = s.sk2 := rfl
@[simp] theorem State.setBlk_gamma (s : State) (b : Block) : (s.setBlk b).gamma = s.gamma := rfl
@[simp] theorem State.setBlk_mode (s : State) (b : Block) : (s.setBlk b).mode = s.mode := rfl
@[simp] theorem State.setBlk_seg (s : State) (b : Block) : (s.setBlk b).seg = s.seg := rfl
@[simp] theorem State.setBlk_taglen (s : State) (b : Block) : (s.setBlk b).taglen = s.taglen := rfl
@[simp] theorem State.setBlk_miv (s : State) (b : Block) : (s.setBlk b).miv = s.miv := rfl
@[simp] theorem State.setBlk_ibuf (s : State) (b : Block) : (s.setBlk b).ibuf = s.ibuf := rfl
@[simp] theorem State.setBlk_obuf (s : State) (b : Block) : (s.setBlk b).obuf = s.obuf := rfl
@[simp] theorem State.setBlk_fault (s : State) (b : Block) : (s.setBlk b).fault = s.fault := rfl
@[simp] theorem State.setBlk_build (s : State) (b : Block) : (s.setBlk b).build = s.build := rfl
@[simp] theorem State.setBlk_inputs (s : State) (b : Block) : (s.setBlk b).inputs = s.inputs := rfl
@[simp] theorem State.setBlk_replies (s : State) (b : Block) : (s.setBlk b).replies = s.replies := rfl

@[simp] theorem State.loadBlk_blk (s : State) (b : Block) : (s.loadBlk b).blk = b := rfl
@[simp] theorem State.loadBlk_blkv (s : State) (b : Block) : (s.loadBlk b).blkv = true := rfl
@[simp] theorem State.loadBlk_mkey (s : State) (b : Block) : (s.loadBlk b).mkey = s.mkey := rfl
@[simp] theorem State.loadBlk_keyv (s : State) (b : Block) : (s.loadBlk b).keyv = s.keyv := rfl
@[simp] theorem State.loadBlk_rk (s : State) (b : Block) : (s.loadBlk b).rk = s.rk := rfl
@[simp] theorem State.loadBlk_rkv (s : State) (b : Block) : (s.loadBlk b).rkv = s.rkv := rfl
@[simp] theorem State.loadBlk_mrk (s : State) (b : Block) : (s.loadBlk b).mrk = s.mrk := rfl
@[simp] theorem State.loadBlk_sk1 (s : State) (b : Block) : (s.loadBlk b).sk1 = s.sk1 := rfl
@[simp] theorem State.loadBlk_sk2 (s : State) (b : Block) : (s.loadBlk b).sk2 = s.sk2 := rfl
@[simp] theorem State.loadBlk_gamma (s : State) (b : Block) : (s.loadBlk b).gamma = s.gamma := rfl
@[simp] theorem State.loadBlk_mode (s : State) (b : Block) : (s.loadBlk b).mode = s.mode := rfl
@[simp] theorem State.loadBlk_seg (s : State) (b : Block) : (s.loadBlk b).seg = s.seg := rfl
@[simp] theorem State.loadBlk_taglen (s : State) (b : Block) : (s.loadBlk b).taglen = s.taglen := rfl
@[simp] theorem State.loadBlk_miv (s : State) (b : Block) : (s.loadBlk b).miv = s.miv := rfl
@[simp] theorem State.loadBlk_ibuf (s : State) (b : Block) : (s.loadBlk b).ibuf = s.ibuf := rfl
@[simp] theorem State.loadBlk_obuf (s : State) (b : Block) : (s.loadBlk b).obuf = s.obuf := rfl
@[simp] theorem State.loadBlk_fault (s : State) (b : Block) : (s.loadBlk b).fault = s.fault := rfl
@[simp] theorem State.loadBlk_build (s : State) (b : Block) : (s.loadBlk b).build = s.build := rfl
@[simp] theorem State.loadBlk_inputs (s : State) (b : Block) : (s.loadBlk b).inputs = s.inputs := rfl
@[simp] theorem State.loadBlk_replies (s : State) (b : Block) : (s.loadBlk b).replies = s.replies := rfl

@[simp] theorem State.loadKey_blk (s : State) (k : Key) : (s.loadKey k).blk = s.blk := rfl
@[simp] theorem State.loadKey_blkv (s : State) (k : Key) : (s.loadKey k).blkv = s.blkv := rfl
@[simp] theorem State.loadKey_mkey (s : State) (k : Key) : (s.loadKey k).mkey = k := rfl
@[simp] theorem State.loadKey_keyv (s : State) (k : Key) : (s.loadKey k).keyv = true := rfl
@[simp] theorem State.loadKey_rk (s : State) (k : Key) : (s.loadKey k).rk = s.rk := rfl
@[simp] theorem State.loadKey_rkv (s : State) (k : Key) : (s.loadKey k).rkv = false := rfl
@[simp] theorem State.loadKey_mrk (s : State) (k : Key) : (s.loadKey k).mrk = s.mrk := rfl
@[simp] theorem State.loadKey_sk1 (s : State) (k : Key) : (s.loadKey k).sk1 = s.sk1 := rfl
@[simp] theorem State.loadKey_sk2 (s : State) (k : Key) : (s.loadKey k).sk2 = s.sk2 := rfl
@[simp] theorem State.loadKey_gamma (s : State) (k : Key) : (s.loadKey k).gamma = s.gamma := rfl
@[simp] theorem State.loadKey_mode (s : State) (k : Key) : (s.loadKey k).mode = s.mode := rfl
@[simp] theorem State.loadKey_seg (s : State) (k : Key) : (s.loadKey k).seg = s.seg := rfl
@[simp] theorem State.loadKey_taglen (s : State) (k : Key) : (s.loadKey k).taglen = s.taglen := rfl
@[simp] theorem State.loadKey_miv (s : State) (k : Key) : (s.loadKey k).miv = s.miv := rfl
@[simp] theorem State.loadKey_ibuf (s : State) (k : Key) : (s.loadKey k).ibuf = s.ibuf := rfl
@[simp] theorem State.loadKey_obuf (s : State) (k : Key) : (s.loadKey k).obuf = s.obuf := rfl
@[simp] theorem State.loadKey_fault (s : State) (k : Key) : (s.loadKey k).fault = s.fault := rfl
@[simp] theorem State.loadKey_build (s : State) (k : Key) : (s.loadKey k).build = s.build := rfl
@[simp] theorem State.loadKey_inputs (s : State) (k : Key) : (s.loadKey k).inputs = s.inputs := rfl
@[simp] theorem State.loadKey_replies (s : State) (k : Key) : (s.loadKey k).replies = s.replies := rfl

@[simp] theorem State.setRoundKeys_blk (s : State) (ks : RoundKeys) : (s.setRoundKeys ks).blk = s.blk := rfl
@[simp] theorem State.setRoundKeys_blkv (s : State) (ks : RoundKeys) : (s.setRoundKeys ks).blkv = s.blkv := rfl
@[simp] theorem State.setRoundKeys_mkey (s : State) (ks : RoundKeys) : (s.setRoundKeys ks).mkey = s.mkey := rfl
@[simp] theorem State.setRoundKeys_keyv (s : State) (ks : RoundKeys) : (s.setRoundKeys ks).keyv = s.keyv := rfl
@[simp] theorem State.setRoundKeys_rk (s : State) (ks : RoundKeys) : (s.setRoundKeys ks).rk = ks := rfl
@[simp] theorem State.setRoundKeys_rkv (s : State) (ks : RoundKeys) : (s.setRoundKeys ks).rkv = true := rfl
@[simp] theorem State.setRoundKeys_mrk (s : State) (ks : RoundKeys) : (s.setRoundKeys ks).mrk = s.mrk := rfl
@[simp] theorem State.setRoundKeys_sk1 (s : State) (ks : RoundKeys) : (s.setRoundKeys ks).sk1 = s.sk1 := rfl
@[simp] theorem State.setRoundKeys_sk2 (s : State) (ks : RoundKeys) : (s.setRoundKeys ks).sk2 = s.sk2 := rfl
@[simp] theorem State.setRoundKeys_gamma (s : State) (ks : RoundKeys) : (s.setRoundKeys ks).gamma = s.gamma := rfl
@[simp] theorem State.setRoundKeys_mode (s : State) (ks : RoundKeys) : (s.setRoundKeys ks).mode = s.mode := rfl
@[simp] theorem State.setRoundKeys_seg (s : State) (ks : RoundKeys) : (s.setRoundKeys ks).seg = s.seg := rfl
@[simp] theorem State.setRoundKeys_taglen (s : State) (ks : RoundKeys) : (s.setRoundKeys ks).taglen = s.taglen := rfl
@[simp] theorem State.setRoundKeys_miv (s : State) (ks : RoundKeys) : (s.setRoundKeys ks).miv = s.miv := rfl
@[simp] theorem State.setRoundKeys_ibuf (s : State) (ks : RoundKeys) : (s.setRoundKeys ks).ibuf = s.ibuf := rfl
@[simp] theorem State.setRoundKeys_obuf (s : State) (ks : RoundKeys) : (s.setRoundKeys ks).obuf = s.obuf := rfl
@[simp] theorem State.setRoundKeys_fault (s : State) (ks : RoundKeys) : (s.setRoundKeys ks).fault = s.fault := rfl
@[simp] theorem State.setRoundKeys_build (s : State) (ks : RoundKeys) : (s.setRoundKeys ks).build = s.build := rfl
@[simp] theorem State.setRoundKeys_inputs (s : State) (ks : RoundKeys) : (s.setRoundKeys ks).inputs = s.inputs := rfl
@[simp] theorem State.setRoundKeys_replies (s : State) (ks : RoundKeys) : (s.setRoundKeys ks).replies = s.replies := rfl

@[simp] theorem State.setGamma_blk (s : State) (g : List Byte) : (s.setGamma g).blk = s.blk := rfl
@[simp] theorem State.setGamma_blkv (s : State) (g : List Byte) : (s.setGamma g).blkv = s.blkv := rfl
@[simp] theorem State.setGamma_mkey (s : State) (g : List Byte) : (s.setGamma g).mkey = s.mkey := rfl
@[simp] theorem State.setGamma_keyv (s : State) (g : List Byte) : (s.setGamma g).keyv = s.keyv := rfl
@[simp] theorem State.setGamma_rk (s : State) (g : List Byte) : (s.setGamma g).rk = s.rk := rfl
@[simp] theorem State.setGamma_rkv (s : State) (g : List Byte) : (s.setGamma g).rkv = s.rkv := rfl
@[simp] theorem State.setGamma_mrk (s : State) (g : List Byte) : (s.setGamma g).mrk = s.mrk := rfl
@[simp] theorem State.setGamma_sk1 (s : State) (g : List Byte) : (s.setGamma g).sk1 = s.sk1 := rfl
@[simp] theorem State.setGamma_sk2 (s : State) (g : List Byte) : (s.setGamma g).sk2 = s.sk2 := rfl
@[simp] theorem State.setGamma_gamma (s : State) (g : List Byte) : (s.setGamma g).gamma = g := rfl
@[simp] theorem State.setGamma_mode (s : State) (g : List Byte) : (s.setGamma g).mode = s.mode := rfl
@[simp] theorem State.setGamma_seg (s : State) (g : List Byte) : (s.setGamma g).seg = s.seg := rfl
@[simp] theorem State.setGamma_taglen (s : State) (g : List Byte) : (s.setGamma g).taglen = s.taglen := rfl
@[simp] theorem State.setGamma_miv (s : State) (g : List Byte) : (s.setGamma g).miv = s.miv := rfl
@[simp] theorem State.setGamma_ibuf (s : State) (g : List Byte) : (s.setGamma g).ibuf = s.ibuf := rfl
@[simp] theorem State.setGamma_obuf (s : State) (g : List Byte) : (s.setGamma g).obuf = s.obuf := rfl
@[simp] theorem State.setGamma_fault (s : State) (g : List Byte) : (s.setGamma g).fault = s.fault := rfl
@[simp] theorem State.setGamma_build (s : State) (g : List Byte) : (s.setGamma g).build = s.build := rfl
@[simp] theorem State.setGamma_inputs (s : State) (g : List Byte) : (s.setGamma g).inputs = s.inputs := rfl
@[simp] theorem State.setGamma_replies (s : State) (g : List Byte) : (s.setGamma g).replies = s.replies := rfl

@[simp] theorem State.setSubkeys_blk (s : State) (k : Block × Block) : (s.setSubkeys k).blk = s.blk := rfl
@[simp] theorem State.setSubkeys_blkv (s : State) (k : Block × Block) : (s.setSubkeys k).blkv = s.blkv := rfl
@[simp] theorem State.setSubkeys_mkey (s : State) (k : Block × Block) : (s.setSubkeys k).mkey = s.mkey := rfl
@[simp] theorem State.setSubkeys_keyv (s : State) (k : Block × Block) : (s.setSubkeys k).keyv = s.keyv := rfl
@[simp] theorem State.setSubkeys_rk (s : State) (k : Block × Block) : (s.setSubkeys k).rk = s.rk := rfl
@[simp] theorem State.setSubkeys_rkv (s : State) (k : Block × Block) : (s.setSubkeys k).rkv = s.rkv := rfl
@[simp] theorem State.setSubkeys_mrk (s : State) (k : Block × Block) : (s.setSubkeys k).mrk = s.mrk := rfl
@[simp] theorem State.setSubkeys_sk1 (s : State) (k : Block × Block) : (s.setSubkeys k).sk1 = k.1 := rfl
@[simp] theorem State.setSubkeys_sk2 (s : State) (k : Block × Block) : (s.setSubkeys k).sk2 = k.2 := rfl
@[simp] theorem State.setSubkeys_gamma (s : State) (k : Block × Block) : (s.setSubkeys k).gamma = s.gamma := rfl
@[simp] theorem State.setSubkeys_mode (s : State) (k : Block × Block) : (s.setSubkeys k).mode = s.mode := rfl
@[simp] theorem State.setSubkeys_seg (s : State) (k : Block × Block) : (s.setSubkeys k).seg = s.seg := rfl
@[simp] theorem State.setSubkeys_taglen (s : State) (k : Block × Block) : (s.setSubkeys k).taglen = s.taglen := rfl
@[simp] theorem State.setSubkeys_miv (s : State) (k : Block × Block) : (s.setSubkeys k).miv = s.miv := rfl
@[simp] theorem State.setSubkeys_ibuf (s : State) (k : Block × Block) : (s.setSubkeys k).ibuf = s.ibuf := rfl
@[simp] theorem State.setSubkeys_obuf (s : State) (k : Block × Block) : (s.setSubkeys k).obuf = s.obuf := rfl
@[simp] theorem State.setSubkeys_fault (s : State) (k : Block × Block) : (s.setSubkeys k).fault = s.fault := rfl
@[simp] theorem State.setSubkeys_build (s : State) (k : Block × Block) : (s.setSubkeys k).build = s.build := rfl
@[simp] theorem State.setSubkeys_inputs (s : State) (k : Block × Block) : (s.setSubkeys k).inputs = s.inputs := rfl
@[simp] theorem State.setSubkeys_replies (s : State) (k : Block × Block) : (s.setSubkeys k).replies = s.replies := rfl

@[simp] theorem State.newInstance_blk (s : State) (m : Mode) (ks : RoundKeys) (sg tl : Nat) : (s.newInstance m ks sg tl).blk = s.blk := rfl
@[simp] theorem State.newInstance_blkv (s : State) (m : Mode) (ks : RoundKeys) (sg tl : Nat) : (s.newInstance m ks sg tl).blkv = s.blkv := rfl
@[simp] theorem State.newInstance_mkey (s : State) (m : Mode) (ks : RoundKeys) (sg tl : Nat) : (s.newInstance m ks sg tl).mkey = s.mkey := rfl
@[simp] theorem State.newInstance_keyv (s : State) (m : Mode) (ks : RoundKeys) (sg tl : Nat) : (s.newInstance m ks sg tl).keyv = s.keyv := rfl
@[simp] theorem State.newInstance_rk (s : State) (m : Mode) (ks : RoundKeys) (sg tl : Nat) : (s.newInstance m ks sg tl).rk = s.rk := rfl
@[simp] theorem State.newInstance_rkv (s : State) (m : Mode) (ks : RoundKeys) (sg tl : Nat) : (s.newInstance m ks sg tl).rkv = s.rkv := rfl
@[simp] theorem State.newInstance_mrk (s : State) (m : Mode) (ks : RoundKeys) (sg tl : Nat) : (s.newInstance m ks sg tl).mrk = ks := rfl
@[simp] theorem State.newInstance_sk1 (s : State) (m : Mode) (ks : RoundKeys) (sg tl : Nat) : (s.newInstance m ks sg tl).sk1 = s.sk1 := rfl
@[simp] theorem State.newInstance_sk2 (s : State) (m : Mode) (ks : RoundKeys) (sg tl : Nat) : (s.newInstance m ks sg tl).sk2 = s.sk2 := rfl
@[simp] theorem State.newInstance_gamma (s : State) (m : Mode) (ks : RoundKeys) (sg tl : Nat) : (s.newInstance m ks sg tl).gamma = [] := rfl
@[simp] theorem State.newInstance_mode (s : State) (m : Mode) (ks : RoundKeys) (sg tl : Nat) : (s.newInstance m ks sg tl).mode = m := rfl
@[simp] theorem State.newInstance_seg (s : State) (m : Mode) (ks : RoundKeys) (sg tl : Nat) : (s.newInstance m ks sg tl).seg = sg := rfl
@[simp] theorem State.newInstance_taglen (s : State) (m : Mode) (ks : RoundKeys) (sg tl : Nat) : (s.newInstance m ks sg tl).taglen = tl := rfl
@[simp] theorem State.newInstance_miv (s : State) (m : Mode) (ks : RoundKeys) (sg tl : Nat) : (s.newInstance m ks sg tl).miv = true := rfl
@[simp] theorem State.newInstance_ibuf (s : State) (m : Mode) (ks : RoundKeys) (sg tl : Nat) : (s.newInstance m ks sg tl).ibuf = s.ibuf := rfl
@[simp] theorem State.newInstance_obuf (s : State) (m : Mode) (ks : RoundKeys) (sg tl : Nat) : (s.newInstance m ks sg tl).obuf = s.obuf := rfl
@[simp] theorem State.newInstance_fault (s : State) (m : Mode) (ks : RoundKeys) (sg tl : Nat) : (s.newInstance m ks sg tl).fault = s.fault := rfl
@[simp] theorem State.newInstance_build (s : State) (m : Mode) (ks : RoundKeys) (sg tl : Nat) : (s.newInstance m ks sg tl).build = s.build := rfl
@[simp] theorem State.newInstance_inputs (s : State) (m : Mode) (ks : RoundKeys) (sg tl : Nat) : (s.newInstance m ks sg tl).inputs = s.inputs := rfl
@[simp] theorem State.newInstance_replies (s : State) (m : Mode) (ks : RoundKeys) (sg tl : Nat) : (s.newInstance m ks sg tl).replies = s.replies := rfl

@[simp] theorem State.setInputs_blk (s : State) (es : List Event) : (s.setInputs es).blk = s.blk := rfl
@[simp] theorem State.setInputs_blkv (s : State) (es : List Event) : (s.setInputs es).blkv = s.blkv := rfl
@[simp] theorem State.setInputs_mkey (s : State) (es : List Event) : (s.setInputs es).mkey = s.mkey := rfl
@[simp] theorem State.setInputs_keyv (s : State) (es : List Event) : (s.setInputs es).keyv = s.keyv := rfl
@[simp] theorem State.setInputs_rk (s : State) (es : List Event) : (s.setInputs es).rk = s.rk := rfl
@[simp] theorem State.setInputs_rkv (s : State) (es : List Event) : (s.setInputs es).rkv = s.rkv := rfl
@[simp] theorem State.setInputs_mrk (s : State) (es : List Event) : (s.setInputs es).mrk = s.mrk := rfl
@[simp] theorem State.setInputs_sk1 (s : State) (es : List Event) : (s.setInputs es).sk1 = s.sk1 := rfl
@[simp] theorem State.setInputs_sk2 (s : State) (es : List Event) : (s.setInputs es).sk2 = s.sk2 := rfl
@[simp] theorem State.setInputs_gamma (s : State) (es : List Event) : (s.setInputs es).gamma = s.gamma := rfl
@[simp] theorem State.setInputs_mode (s : State) (es : List Event) : (s.setInputs es).mode = s.mode := rfl
@[simp] theorem State.setInputs_seg (s : State) (es : List Event) : (s.setInputs es).seg = s.seg := rfl
@[simp] theorem State.setInputs_taglen (s : State) (es : List Event) : (s.setInputs es).taglen = s.taglen := rfl
@[simp] theorem State.setInputs_miv (s : State) (es : List Event) : (s.setInputs es).miv = s.miv := rfl
@[simp] theorem State.setInputs_ibuf (s : State) (es : List Event) : (s.setInputs es).ibuf = s.ibuf := rfl
@[simp] theorem State.setInputs_obuf (s : State) (es : List Event) : (s.setInputs es).obuf = s.obuf := rfl
@[simp] theorem State.setInputs_fault (s : State) (es : List Event) : (s.setInputs es).fault = s.fault := rfl
@[simp] theorem State.setInputs_build (s : State) (es : List Event) : (s.setInputs es).build = s.build := rfl
@[simp] theorem State.setInputs_inputs (s : State) (es : List Event) : (s.setInputs es).inputs = es := rfl
@[simp] theorem State.setInputs_replies (s : State) (es : List Event) : (s.setInputs es).replies = s.replies := rfl

@[simp] theorem State.reply_blk (s : State) (r : Reply) : (s.reply r).blk = s.blk := rfl
@[simp] theorem State.reply_blkv (s : State) (r : Reply) : (s.reply r).blkv = s.blkv := rfl
@[simp] theorem State.reply_mkey (s : State) (r : Reply) : (s.reply r).mkey = s.mkey := rfl
@[simp] theorem State.reply_keyv (s : State) (r : Reply) : (s.reply r).keyv = s.keyv := rfl
@[simp] theorem State.reply_rk (s : State) (r : Reply) : (s.reply r).rk = s.rk := rfl
@[simp] theorem State.reply_rkv (s : State) (r : Reply) : (s.reply r).rkv = s.rkv := rfl
@[simp] theorem State.reply_mrk (s : State) (r : Reply) : (s.reply r).mrk = s.mrk := rfl
@[simp] theorem State.reply_sk1 (s : State) (r : Reply) : (s.reply r).sk1 = s.sk1 := rfl
@[simp] theorem State.reply_sk2 (s : State) (r : Reply) : (s.reply r).sk2 = s.sk2 := rfl
@[simp] theorem State.reply_gamma (s : State) (r : Reply) : (s.reply r).gamma = s.gamma := rfl
@[simp] theorem State.reply_mode (s : State) (r : Reply) : (s.reply r).mode = s.mode := rfl
@[simp] theorem State.reply_seg (s : State) (r : Reply) : (s.reply r).seg = s.seg := rfl
@[simp] theorem State.reply_taglen (s : State) (r : Reply) : (s.reply r).taglen = s.taglen := rfl
@[simp] theorem State.reply_miv (s : State) (r : Reply) : (s.reply r).miv = s.miv := rfl
@[simp] theorem State.reply_ibuf (s : State) (r : Reply) : (s.reply r).ibuf = s.ibuf := rfl
@[simp] theorem State.reply_obuf (s : State) (r : Reply) : (s.reply r).obuf = s.obuf := rfl
@[simp] theorem State.reply_fault (s : State) (r : Reply) : (s.reply r).fault = s.fault := rfl
@[simp] theorem State.reply_build (s : State) (r : Reply) : (s.reply r).build = s.build := rfl
@[simp] theorem State.reply_inputs (s : State) (r : Reply) : (s.reply r).inputs = s.inputs := rfl
@[simp] theorem State.reply_replies (s : State) (r : Reply) : (s.reply r).replies = s.replies ++ [r] := rfl

@[simp] theorem State.raise_blk (s : State) (f : FaultCode) : (s.raise f).blk = s.blk := rfl
@[simp] theorem State.raise_blkv (s : State) (f : FaultCode) : (s.raise f).blkv = s.blkv := rfl
@[simp] theorem State.raise_mkey (s : State) (f : FaultCode) : (s.raise f).mkey = s.mkey := rfl
@[simp] theorem State.raise_keyv (s : State) (f : FaultCode) : (s.raise f).keyv = s.keyv := rfl
@[simp] theorem State.raise_rk (s : State) (f : FaultCode) : (s.raise f).rk = s.rk := rfl
@[simp] theorem State.raise_rkv (s : State) (f : FaultCode) : (s.raise f).rkv = s.rkv := rfl
@[simp] theorem State.raise_mrk (s : State) (f : FaultCode) : (s.raise f).mrk = s.mrk := rfl
@[simp] theorem State.raise_sk1 (s : State) (f : FaultCode) : (s.raise f).sk1 = s.sk1 := rfl
@[simp] theorem State.raise_sk2 (s : State) (f : FaultCode) : (s.raise f).sk2 = s.sk2 := rfl
@[simp] theorem State.raise_gamma (s : State) (f : FaultCode) : (s.raise f).gamma = s.gamma := rfl
@[simp] theorem State.raise_mode (s : State) (f : FaultCode) : (s.raise f).mode = s.mode := rfl
@[simp] theorem State.raise_seg (s : State) (f : FaultCode) : (s.raise f).seg = s.seg := rfl
@[simp] theorem State.raise_taglen (s : State) (f : FaultCode) : (s.raise f).taglen = s.taglen := rfl
@[simp] theorem State.raise_miv (s : State) (f : FaultCode) : (s.raise f).miv = s.miv := rfl
@[simp] theorem State.raise_ibuf (s : State) (f : FaultCode) : (s.raise f).ibuf = s.ibuf := rfl
@[simp] theorem State.raise_obuf (s : State) (f : FaultCode) : (s.raise f).obuf = s.obuf := rfl
@[simp] theorem State.raise_fault (s : State) (f : FaultCode) : (s.raise f).fault = some f := rfl
@[simp] theorem State.raise_build (s : State) (f : FaultCode) : (s.raise f).build = s.build := rfl
@[simp] theorem State.raise_inputs (s : State) (f : FaultCode) : (s.raise f).inputs = s.inputs := rfl
@[simp] theorem State.raise_replies (s : State) (f : FaultCode) : (s.raise f).replies = s.replies := rfl

@[simp] theorem State.resetDevice_blkv (s : State) : s.resetDevice.blkv = false := rfl
@[simp] theorem State.resetDevice_keyv (s : State) : s.resetDevice.keyv = false := rfl
@[simp] theorem State.resetDevice_rkv (s : State) : s.resetDevice.rkv = false := rfl
@[simp] theorem State.resetDevice_miv (s : State) : s.resetDevice.miv = false := rfl
@[simp] theorem State.resetDevice_gamma (s : State) : s.resetDevice.gamma = [] := rfl
@[simp] theorem State.resetDevice_mode (s : State) : s.resetDevice.mode = .ecb := rfl
@[simp] theorem State.resetDevice_seg (s : State) : s.resetDevice.seg = 16 := rfl
@[simp] theorem State.resetDevice_taglen (s : State) : s.resetDevice.taglen = 8 := rfl
@[simp] theorem State.resetDevice_ibuf (s : State) : s.resetDevice.ibuf = [] := rfl
@[simp] theorem State.resetDevice_obuf (s : State) : s.resetDevice.obuf = [] := rfl
@[simp] theorem State.resetDevice_fault (s : State) : s.resetDevice.fault = none := rfl
@[simp] theorem State.resetDevice_build (s : State) : s.resetDevice.build = s.build := rfl
@[simp] theorem State.resetDevice_inputs (s : State) : s.resetDevice.inputs = s.inputs := rfl
@[simp] theorem State.resetDevice_replies (s : State) : s.resetDevice.replies = s.replies := rfl

@[simp] theorem State.deriveSubkeys_blk (s : State) (m : Mode) (ks : RoundKeys) :
    (s.deriveSubkeys m ks).blk = s.blk := by unfold State.deriveSubkeys; split <;> rfl
@[simp] theorem State.deriveSubkeys_blkv (s : State) (m : Mode) (ks : RoundKeys) :
    (s.deriveSubkeys m ks).blkv = s.blkv := by unfold State.deriveSubkeys; split <;> rfl
@[simp] theorem State.deriveSubkeys_mkey (s : State) (m : Mode) (ks : RoundKeys) :
    (s.deriveSubkeys m ks).mkey = s.mkey := by unfold State.deriveSubkeys; split <;> rfl
@[simp] theorem State.deriveSubkeys_keyv (s : State) (m : Mode) (ks : RoundKeys) :
    (s.deriveSubkeys m ks).keyv = s.keyv := by unfold State.deriveSubkeys; split <;> rfl
@[simp] theorem State.deriveSubkeys_rk (s : State) (m : Mode) (ks : RoundKeys) :
    (s.deriveSubkeys m ks).rk = s.rk := by unfold State.deriveSubkeys; split <;> rfl
@[simp] theorem State.deriveSubkeys_rkv (s : State) (m : Mode) (ks : RoundKeys) :
    (s.deriveSubkeys m ks).rkv = s.rkv := by unfold State.deriveSubkeys; split <;> rfl
@[simp] theorem State.deriveSubkeys_mrk (s : State) (m : Mode) (ks : RoundKeys) :
    (s.deriveSubkeys m ks).mrk = s.mrk := by unfold State.deriveSubkeys; split <;> rfl
@[simp] theorem State.deriveSubkeys_gamma (s : State) (m : Mode) (ks : RoundKeys) :
    (s.deriveSubkeys m ks).gamma = s.gamma := by unfold State.deriveSubkeys; split <;> rfl
@[simp] theorem State.deriveSubkeys_mode (s : State) (m : Mode) (ks : RoundKeys) :
    (s.deriveSubkeys m ks).mode = s.mode := by unfold State.deriveSubkeys; split <;> rfl
@[simp] theorem State.deriveSubkeys_seg (s : State) (m : Mode) (ks : RoundKeys) :
    (s.deriveSubkeys m ks).seg = s.seg := by unfold State.deriveSubkeys; split <;> rfl
@[simp] theorem State.deriveSubkeys_taglen (s : State) (m : Mode) (ks : RoundKeys) :
    (s.deriveSubkeys m ks).taglen = s.taglen := by unfold State.deriveSubkeys; split <;> rfl
@[simp] theorem State.deriveSubkeys_miv (s : State) (m : Mode) (ks : RoundKeys) :
    (s.deriveSubkeys m ks).miv = s.miv := by unfold State.deriveSubkeys; split <;> rfl
@[simp] theorem State.deriveSubkeys_ibuf (s : State) (m : Mode) (ks : RoundKeys) :
    (s.deriveSubkeys m ks).ibuf = s.ibuf := by unfold State.deriveSubkeys; split <;> rfl
@[simp] theorem State.deriveSubkeys_obuf (s : State) (m : Mode) (ks : RoundKeys) :
    (s.deriveSubkeys m ks).obuf = s.obuf := by unfold State.deriveSubkeys; split <;> rfl
@[simp] theorem State.deriveSubkeys_fault (s : State) (m : Mode) (ks : RoundKeys) :
    (s.deriveSubkeys m ks).fault = s.fault := by unfold State.deriveSubkeys; split <;> rfl
@[simp] theorem State.deriveSubkeys_build (s : State) (m : Mode) (ks : RoundKeys) :
    (s.deriveSubkeys m ks).build = s.build := by unfold State.deriveSubkeys; split <;> rfl
@[simp] theorem State.deriveSubkeys_inputs (s : State) (m : Mode) (ks : RoundKeys) :
    (s.deriveSubkeys m ks).inputs = s.inputs := by unfold State.deriveSubkeys; split <;> rfl
@[simp] theorem State.deriveSubkeys_replies (s : State) (m : Mode) (ks : RoundKeys) :
    (s.deriveSubkeys m ks).replies = s.replies := by unfold State.deriveSubkeys; split <;> rfl

@[simp] theorem State.deriveSubkeys_mac (s : State) (ks : RoundKeys) :
    s.deriveSubkeys .mac ks = s.setSubkeys (macSubkeys ks) := rfl

/-- Only a Mac instance derives subkeys. -/
theorem State.deriveSubkeys_of_ne (s : State) {m : Mode} (h : m ≠ .mac) (ks : RoundKeys) :
    s.deriveSubkeys m ks = s := if_neg h

@[simp] theorem State.message_eq (s : State) : s.message = s.ibuf.bytes := rfl
@[simp] theorem State.faulted_eq (s : State) : s.faulted = s.fault.isSome := rfl
@[simp] theorem State.withEvent_eq (s : State) (e : Event) :
    s.withEvent e = s.setInputs (e :: s.inputs) := rfl

end Sys2Proof.Machine
end

