-- ==== Sys2Proof/Laws/Ops.lean ====
section
/-!
SUPPORT. For each shared operation, what it does, once: later proofs cite these lemmas instead of
unfolding the operation.
-/

namespace Sys2Proof.Machine

/-! ### Byte strings and fixed-size registers -/

/-- A string of the right length fills a register exactly. -/
theorem fixedOf_toList {n : Nat} {l : List Byte} (h : l.length = n) : (fixedOf n l).toList = l := by
  show (l ++ zeros n).take n = l
  rw [← h, List.take_left]

/-- A 16-byte slice fills a block exactly. -/
theorem blockOf_toList {l : List Byte} (h : l.length = 16) : (blockOf l).toList = l :=
  fixedOf_toList h

/-- A block is the block of its own bytes. -/
theorem blockOf_of_toList (b : Block) : blockOf b.toList = b :=
  Vector.toList_inj.mp (blockOf_toList b.length_toList)

@[simp] theorem xorBytes_length (a b : List Byte) :
    (xorBytes a b).length = min a.length b.length := by simp [xorBytes]

@[simp] theorem xorBytes_nil_left (b : List Byte) : xorBytes [] b = [] := rfl

/-- The bytes of an exclusive-or of blocks. -/
theorem xorBlock_toList (a b : Block) : (xorBlock a b).toList = xorBytes a.toList b.toList :=
  blockOf_toList (by simp)

/-- Exclusive-or of equal-length strings, twice with the same string, is the identity. -/
theorem xorBytes_cancel {a b : List Byte} (h : a.length = b.length) :
    xorBytes (xorBytes a b) b = a := by
  induction a generalizing b with
  | nil => rfl
  | cons x xs ih =>
    cases b with
    | nil => simp at h
    | cons y ys =>
      show (x ^^^ y ^^^ y) :: xorBytes (xorBytes xs ys) ys = x :: xs
      rw [ih (by simpa using h), BitVec.xor_assoc, BitVec.xor_self, BitVec.xor_zero]

/-- XOR with the same block twice is the identity. -/
theorem xorBlock_cancel (a b : Block) : xorBlock (xorBlock a b) b = a :=
  Vector.toList_inj.mp (by rw [xorBlock_toList, xorBlock_toList, xorBytes_cancel (by simp)])

@[simp] theorem onSlice_length (F : Block → Block) (b : List Byte) : (onSlice F b).length = 16 := by
  simp [onSlice]

/-! ### Pieces of a message -/

theorem chunksUpTo_flatten {s : Nat} (hs : 0 < s) :
    ∀ {k : Nat} {m : List Byte}, m.length ≤ k → (chunksUpTo s k m).flatten = m
  | 0, [], _ => rfl
  | _ + 1, [], _ => rfl
  | k + 1, b :: bs, h => by
    have h' : ((b :: bs).drop s).length ≤ k := by
      simp only [List.length_drop, List.length_cons] at h ⊢; omega
    show (b :: bs).take s ++ (chunksUpTo s k ((b :: bs).drop s)).flatten = b :: bs
    rw [chunksUpTo_flatten hs h', List.take_append_drop]

/-- The pieces of a message joined are the message. -/
theorem chunks_flatten {s : Nat} (hs : 0 < s) (m : List Byte) : (chunks s m).flatten = m :=
  chunksUpTo_flatten hs (le_refl _)

@[simp] theorem chunks_nil (s : Nat) : chunks s [] = [] := rfl

theorem chunksUpTo_mem_length {s : Nat} (hs : 0 < s) :
    ∀ {k : Nat} {m : List Byte}, m.length ≤ k → m.length % s = 0 →
      ∀ b ∈ chunksUpTo s k m, b.length = s
  | 0, _, _, _, _, hb => by simp [chunksUpTo] at hb
  | _ + 1, [], _, _, _, hb => by simp [chunksUpTo] at hb
  | k + 1, x :: xs, h, hm, b, hb => by
    have hle : s ≤ (x :: xs).length :=
      Nat.le_of_dvd (by simp) (Nat.dvd_of_mod_eq_zero hm)
    rcases List.mem_cons.mp hb with rfl | hb
    · rw [List.length_take]; omega
    · refine chunksUpTo_mem_length hs ?_ ?_ b hb
      · simp only [List.length_drop, List.length_cons] at h ⊢; omega
      · rw [List.length_drop, ← Nat.mod_eq_sub_mod hle, hm]

/-- Every piece of an aligned message is whole. -/
theorem chunks_mem_length {s : Nat} (hs : 0 < s) {m : List Byte} (hm : m.length % s = 0) :
    ∀ b ∈ chunks s m, b.length = s :=
  chunksUpTo_mem_length hs (le_refl _) hm

/-! ### A mode's loop -/

@[simp] theorem chain_nil (f : List Byte → List Byte → List Byte × List Byte) (g : List Byte) :
    chain f [] g = ([], g) := rfl

/-- The loop over two runs of pieces is the loop over the first, then over the second from the gamma
the first left. -/
theorem chain_append (f : List Byte → List Byte → List Byte × List Byte) :
    ∀ (bs cs : List (List Byte)) (g : List Byte),
      chain f (bs ++ cs) g =
        ((chain f bs g).1 ++ (chain f cs (chain f bs g).2).1, (chain f cs (chain f bs g).2).2)
  | [], _, _ => rfl
  | b :: bs, cs, g => by
    simp only [List.cons_append, chain, chain_append f bs cs, List.append_assoc]

/-- A property of the gamma that every step keeps holds after the loop. -/
theorem chain_gamma_induct {f : List Byte → List Byte → List Byte × List Byte}
    {P : List Byte → Prop} :
    ∀ {bs : List (List Byte)} {g : List Byte}, (∀ b ∈ bs, ∀ g, P g → P (f b g).2) → P g →
      P (chain f bs g).2
  | [], _, _, hg => hg
  | _ :: bs, _, hf, hg =>
    chain_gamma_induct (bs := bs) (fun c hc => hf c (List.mem_cons_of_mem _ hc))
      (hf _ List.mem_cons_self _ hg)

/-! ### Buffers -/

@[simp] theorem Memory.ofBytes_length (m : List Byte) : (Memory.ofBytes m).length = m.length := by
  simp [Memory.ofBytes]

/-- Every buffer the machine writes has the canonical form. -/
@[simp] theorem Memory.ofBytes_wf (m : List Byte) : (Memory.ofBytes m).wf = true := by
  simp [Memory.wf, Memory.ofBytes, List.map_fst_zip]

@[simp] theorem Memory.nil_wf : Memory.wf [] = true := rfl

/-- Reading a buffer back gives what was written. -/
@[simp] theorem Memory.ofBytes_bytes (m : List Byte) : (Memory.ofBytes m).bytes = m := by
  simp [Memory.bytes, Memory.ofBytes, List.map_snd_zip]

@[simp] theorem Memory.bytes_length (m : Memory) : m.bytes.length = m.length := by
  simp [Memory.bytes]

/-- The byte at an address of a written buffer is the byte of that index. -/
@[simp] theorem Memory.ofBytes_read (m : List Byte) (a : Nat) : (Memory.ofBytes m).read a = m[a]? := by
  suffices h : ∀ (l : List Byte) (k : Nat),
      (((List.range' k l.length).zip l).find? fun c => c.1 == k + a).map Prod.snd = l[a]? by
    have := h m 0
    rw [Nat.zero_add, ← List.range_eq_range'] at this
    rw [← this, Memory.read, Memory.ofBytes]
    cases ((List.range m.length).zip m).find? fun c => c.1 == a <;> rfl
  induction a with
  | zero => intro l k; cases l <;> simp [List.range'_succ]
  | succ a ih =>
    intro l k
    cases l with
    | nil => rfl
    | cons b bs =>
      have hk : (k == k + (a + 1)) = false := by simp
      simp only [List.length_cons, List.range'_succ, List.zip_cons_cons, List.find?_cons, hk,
        List.getElem?_cons_succ]
      rw [← ih bs (k + 1), show k + 1 + a = k + (a + 1) by omega]

/-- Beyond the length of a buffer no address has a value (20_memory.md R61). -/
theorem Memory.ofBytes_read_beyond {m : List Byte} {a : Nat} (h : m.length ≤ a) :
    (Memory.ofBytes m).read a = none := by
  simp [List.getElem?_eq_none h]

/-! ### Checks and commands -/

@[simp] theorem firstFailure_nil : firstFailure [] = none := rfl

@[simp] theorem firstFailure_cons (c : Check) (cs : List Check) :
    firstFailure (c :: cs) = if c.holds then firstFailure cs else some c.code := rfl

/-- No check fails exactly when all hold. -/
theorem firstFailure_eq_none {cs : List Check} :
    firstFailure cs = none ↔ ∀ c ∈ cs, c.holds = true := by
  induction cs with
  | nil => simp
  | cons c cs ih => by_cases h : c.holds <;> simp [h, ih]

/-- A faulted device ignores a command. -/
theorem command_faulted {s : State} (h : s.fault ≠ none) (cs : List Check) (e : State) :
    command s cs e = .next s := by
  rw [command, if_pos]
  simpa [Option.isSome_iff_ne_none] using h

/-- The first failing check is raised. -/
theorem command_raises {s : State} {cs : List Check} {f : FaultCode} (h : s.fault = none)
    (hf : firstFailure cs = some f) (e : State) : command s cs e = .next (s.raise f) := by
  simp [command, h, hf]

/-- When every check passes the effect happens. -/
theorem command_performs {s : State} {cs : List Check} (h : s.fault = none)
    (hf : firstFailure cs = none) (e : State) : command s cs e = .next e := by
  simp [command, h, hf]

/-- Everything `command` can do. -/
theorem command_cases {s t e : State} {cs : List Check} (h : command s cs e = .next t) :
    (s.fault ≠ none ∧ t = s) ∨
    (s.fault = none ∧ ∃ f, firstFailure cs = some f ∧ t = s.raise f) ∨
    (s.fault = none ∧ firstFailure cs = none ∧ t = e) := by
  by_cases hs : s.fault = none
  · cases hf : firstFailure cs with
    | none =>
      rw [command_performs hs hf] at h
      exact .inr (.inr ⟨hs, rfl, (Host.Outcome.next.inj h).symm⟩)
    | some f =>
      rw [command_raises hs hf] at h
      exact .inr (.inl ⟨hs, f, rfl, (Host.Outcome.next.inj h).symm⟩)
  · rw [command_faulted hs] at h
    exact .inl ⟨hs, (Host.Outcome.next.inj h).symm⟩

end Sys2Proof.Machine
end

