-- ==== Sys2Proof/Laws/PerInstr.lean ====
section
/-!
SUPPORT. For every command: the three fields of its encoded word are its opcode and its operands
(30_encoding.md R90).
-/

namespace Sys2Proof

/-- The fields of a word put together from fields. -/
theorem commandWord_fields (opc a : BitVec 8) (n : BitVec 16) :
    opcField (commandWord opc a n) = opc ∧ aField (commandWord opc a n) = a ∧
      nField (commandWord opc a n) = n := by
  refine ⟨?_, ?_, ?_⟩
  · ext k hk
    simp only [opcField, commandWord, BitVec.getElem_extractLsb', BitVec.getLsbD_append]
    simp [show ¬24 + k < 16 by omega, show ¬24 + k - 16 < 8 by omega,
      show 24 + k - 16 - 8 = k by omega, BitVec.getLsbD_eq_getElem hk]
  · ext k hk
    simp only [aField, commandWord, BitVec.getElem_extractLsb', BitVec.getLsbD_append]
    simp [hk]
  · ext k hk
    simp only [nField, commandWord, BitVec.getElem_extractLsb', BitVec.getLsbD_append]
    simp [hk]

end Sys2Proof

namespace Sys2Proof.Laws.EncodedFields

/-- The fields of the encoded command are its opcode and operands. -/
def Statement (i : Sys2Proof.Instr) : Prop :=
  opcField (encode i) = opcode i ∧ aField (encode i) = operandA i ∧ nField (encode i) = operandN i

theorem nop : Statement .nop := commandWord_fields _ _ _
theorem ldk : Statement .ldk := commandWord_fields _ _ _
theorem ldb : Statement .ldb := commandWord_fields _ _ _
theorem stb : Statement .stb := commandWord_fields _ _ _
theorem strk (i : BitVec 8) : Statement (.strk i) := commandWord_fields _ _ _
theorem stg : Statement .stg := commandWord_fields _ _ _
theorem stsk (j : BitVec 8) : Statement (.stsk j) := commandWord_fields _ _ _
theorem sub : Statement .sub := commandWord_fields _ _ _
theorem isub : Statement .isub := commandWord_fields _ _ _
theorem lin : Statement .lin := commandWord_fields _ _ _
theorem ilin : Statement .ilin := commandWord_fields _ _ _
theorem kexp : Statement .kexp := commandWord_fields _ _ _
theorem encb : Statement .encb := commandWord_fields _ _ _
theorem decb : Statement .decb := commandWord_fields _ _ _
theorem minit (m : Mode) (n : BitVec 16) : Statement (.minit m n) := commandWord_fields _ _ _
theorem mcfg : Statement .mcfg := commandWord_fields _ _ _
theorem menc : Statement .menc := commandWord_fields _ _ _
theorem mdec : Statement .mdec := commandWord_fields _ _ _

end Sys2Proof.Laws.EncodedFields
end

