-- ==== Sys2Proof/Laws/Step.lean ====
section
/-!
SUPPORT. What one step and one host operation can do, said once: later proofs take a step apart with
these lemmas and then argue about `command`, `Laws/Ops.lean`.
-/

namespace Sys2Proof.Machine

/-- Nothing to come, nothing done. -/
theorem step_nil {s : State} (h : s.inputs = []) : step s = .next s := by
  simp [step, fetch, h]

/-- The next event is performed on the state in which it is no longer to come. -/
theorem step_cons {s : State} {e : Event} {es : List Event} (h : s.inputs = e :: es) :
    step s = perform e (s.setInputs es) := by
  simp [step, fetch, h]

/-- A step from a state whose next event was put there. -/
theorem step_withEvent (s : State) (e : Event) : step (s.withEvent e) = perform e s :=
  step_cons rfl

/-- A command word on a device without a fault is decoded: an illegal one is raised, a legal one is
executed. -/
theorem hostCmd_idle {s : State} (h : s.fault = none) (w : Word) :
    hostCmd w s = match decode w with
      | .error _ => .next (s.raise .illegalCommand)
      | .ok i => exec i s := by
  cases hd : decode w <;> simp [hostCmd, h, hd]

/-- A command word on a faulted device is not even decoded. -/
theorem hostCmd_faulted {s : State} (h : s.fault ≠ none) (w : Word) : hostCmd w s = .next s := by
  rw [hostCmd, if_pos]
  simpa [Option.isSome_iff_ne_none] using h

/-! ### Every meaning is one `command`: its checks, then its effect -/

theorem exec_nop (s : State) :
    exec .nop s =
      command s [] s := rfl

theorem exec_ldk (s : State) :
    exec .ldk s =
      command s [needLength s 32] (s.loadKey (fixedOf 32 s.message)) := rfl

theorem exec_ldb (s : State) :
    exec .ldb s =
      command s [needLength s 16] (s.loadBlk (blockOf s.message)) := rfl

theorem exec_stb (s : State) :
    exec .stb s =
      command s [needBlk s] (s.output s.blk.toList) := rfl

theorem exec_strk (i : BitVec 8) (s : State) :
    exec (.strk i) s =
      command s [needOperands (.strk i), needRoundKeys s]
        (s.output (roundKey s.rk i.toNat).toList) := rfl

theorem exec_stg (s : State) :
    exec .stg s =
      command s [needInstance s] (s.output s.gamma) := rfl

theorem exec_stsk (j : BitVec 8) (s : State) :
    exec (.stsk j) s =
      command s
        [needOperands (.stsk j), needInstance s,
         { holds := decide (s.mode = .mac), code := .unsupportedOperation }]
        (s.output (subkey s j).toList) := rfl

theorem exec_sub (s : State) :
    exec .sub s =
      command s [needBlk s] (s.setBlk (sFwd s.blk)) := rfl

theorem exec_isub (s : State) :
    exec .isub s =
      command s [needBlk s] (s.setBlk (sInv s.blk)) := rfl

theorem exec_lin (s : State) :
    exec .lin s =
      command s [needBlk s] (s.setBlk (lFwd s.blk)) := rfl

theorem exec_ilin (s : State) :
    exec .ilin s =
      command s [needBlk s] (s.setBlk (lInv s.blk)) := rfl

theorem exec_kexp (s : State) :
    exec .kexp s =
      command s [needKey s] (s.setRoundKeys (keyExpand s.mkey)) := rfl

theorem exec_encb (s : State) :
    exec .encb s =
      command s [needRoundKeys s, needBlk s] (s.setBlk (encBlock s.rk s.blk)) := rfl

theorem exec_decb (s : State) :
    exec .decb s =
      command s [needRoundKeys s, needBlk s] (s.setBlk (decBlock s.rk s.blk)) := rfl

theorem exec_minit (m : Mode) (n : BitVec 16) (s : State) :
    exec (.minit m n) s =
      command s [needOperands (.minit m n), needRoundKeys s]
        ((s.newInstance m s.rk (segOperand m n) (tagOperand m n)).deriveSubkeys m s.rk) := rfl

theorem exec_mcfg (s : State) :
    exec .mcfg s =
      command s
        [needInstance s, { holds := decide (s.ilen ≤ s.build.gmax), code := .capacityExceeded }]
        (s.setGamma s.message) := rfl

theorem exec_menc (s : State) :
    exec .menc s =
      command s (needInstance s :: gammaChecks s ++ encryptChecks s)
        ((s.setGamma (modeEncrypt s).2).output (modeEncrypt s).1) := rfl

theorem exec_mdec (s : State) :
    exec .mdec s =
      command s
        (needInstance s :: { holds := decide (s.mode ≠ .mac), code := .unsupportedOperation } ::
          gammaChecks s ++ decryptChecks s)
        ((s.setGamma (modeDecrypt s).2).output (modeDecrypt s).1) := rfl

/-! ### What a step can do -/

/-- Everything a command word can do: nothing on a faulted device, the illegal word's fault, or the
decoded command. -/
theorem hostCmd_cases {s t : State} {w : Word} (h : hostCmd w s = .next t) :
    (s.fault ≠ none ∧ t = s) ∨
    (s.fault = none ∧ (∃ e, decode w = .error e) ∧ t = s.raise .illegalCommand) ∨
    (s.fault = none ∧ ∃ i, decode w = .ok i ∧ exec i s = .next t) := by
  by_cases hs : s.fault = none
  · rw [hostCmd_idle hs] at h
    cases hd : decode w with
    | error e =>
      rw [hd] at h
      exact .inr (.inl ⟨hs, ⟨e, rfl⟩, (Host.Outcome.next.inj h).symm⟩)
    | ok i =>
      rw [hd] at h
      exact .inr (.inr ⟨hs, i, rfl, h⟩)
  · rw [hostCmd_faulted hs] at h
    exact .inl ⟨hs, (Host.Outcome.next.inj h).symm⟩

/-- Everything a step can do, by the event that comes next. -/
theorem step_cases {s t : State} (h : step s = .next t) :
    (s.inputs = [] ∧ t = s) ∨
    ∃ es, (s.inputs = .reset :: es ∧ t = (s.setInputs es).resetDevice) ∨
      (∃ m, s.inputs = .host (.load m) :: es ∧ hostLoad m (s.setInputs es) = .next t) ∨
      (∃ w, s.inputs = .host (.cmd w) :: es ∧ hostCmd w (s.setInputs es) = .next t) ∨
      (s.inputs = .host .store :: es ∧ t = (s.setInputs es).reply (.bytes s.obuf.bytes)) ∨
      (∃ c, s.inputs = .host (.csrRead c) :: es ∧
        t = (s.setInputs es).reply (.word (csrWord (s.setInputs es) c))) := by
  cases hi : s.inputs with
  | nil => rw [step_nil hi] at h; exact .inl ⟨rfl, (Host.Outcome.next.inj h).symm⟩
  | cons e es =>
    rw [step_cons hi] at h
    refine .inr ⟨es, ?_⟩
    match e, h with
    | .reset, h => exact .inl ⟨rfl, (Host.Outcome.next.inj h).symm⟩
    | .host (.load m), h => exact .inr (.inl ⟨m, rfl, h⟩)
    | .host (.cmd w), h => exact .inr (.inr (.inl ⟨w, rfl, h⟩))
    | .host .store, h => exact .inr (.inr (.inr (.inl ⟨rfl, (Host.Outcome.next.inj h).symm⟩)))
    | .host (.csrRead c), h =>
      exact .inr (.inr (.inr (.inr ⟨c, rfl, (Host.Outcome.next.inj h).symm⟩)))

end Sys2Proof.Machine
end

