-- ==== Sys2Proof/Tests/Slice0.lean ====
section
/-!
SUPPORT. Tests on words and values written out from the spec, and for every statement with hypotheses
a witness: a concrete state and operands that meet them.
-/

namespace Sys2Proof.Tests

open Sys2Proof.Machine Sys2Proof.Spec

/- One kernel evaluation after another, so that the compile needs few threads at a time. -/
set_option Elab.async false

/-! ### Decoding: a word of each command, from 30_encoding.md R95 to R98 -/

theorem test_decode_nop : decode 0x00000000 = .ok .nop := rfl
theorem test_decode_ldk : decode 0x01000000 = .ok .ldk := rfl
theorem test_decode_ldb : decode 0x02000000 = .ok .ldb := rfl
theorem test_decode_stb : decode 0x03000000 = .ok .stb := rfl
theorem test_decode_strk : decode 0x040A0000 = .ok (.strk 10) := rfl
theorem test_decode_stg : decode 0x05000000 = .ok .stg := rfl
theorem test_decode_stsk : decode 0x06020000 = .ok (.stsk 2) := rfl
theorem test_decode_sub : decode 0x10000000 = .ok .sub := rfl
theorem test_decode_isub : decode 0x11000000 = .ok .isub := rfl
theorem test_decode_lin : decode 0x12000000 = .ok .lin := rfl
theorem test_decode_ilin : decode 0x13000000 = .ok .ilin := rfl
theorem test_decode_kexp : decode 0x20000000 = .ok .kexp := rfl
theorem test_decode_encb : decode 0x28000000 = .ok .encb := rfl
theorem test_decode_decb : decode 0x29000000 = .ok .decb := rfl
theorem test_decode_minit_cfb : decode 0x30040008 = .ok (.minit .cfb 8) := rfl
theorem test_decode_minit_mac : decode 0x30050010 = .ok (.minit .mac 16) := rfl
theorem test_decode_mcfg : decode 0x31000000 = .ok .mcfg := rfl
theorem test_decode_menc : decode 0x32000000 = .ok .menc := rfl
theorem test_decode_mdec : decode 0x33000000 = .ok .mdec := rfl

/-- The illegal words of 30_encoding.md R98. The names of the errors are the model's own (log entry 14). -/
theorem test_decode_illegal :
    decode 0x00010000 = .error .reservedField ∧ decode 0x07000000 = .error .unassignedOpcode ∧
    decode 0x04000000 = .error .indexOutOfRange ∧ decode 0x040B0000 = .error .indexOutOfRange ∧
    decode 0x04010001 = .error .reservedField ∧ decode 0x30060000 = .error .modeOutOfRange ∧
    decode 0x30000001 = .error .reservedField ∧ decode 0x30040011 = .error .sizeOutOfRange ∧
    decode 0x06030000 = .error .indexOutOfRange ∧ decode 0x10000001 = .error .reservedField ∧
    decode 0xFF000000 = .error .unassignedOpcode :=
  ⟨rfl, rfl, rfl, rfl, rfl, rfl, rfl, rfl, rfl, rfl, rfl⟩

theorem test_encode : encode (.minit .cfb 8) = 0x30040008 ∧ encode (.strk 10) = 0x040A0000 := by decide

/-- The opcode table gives a row its fixed bits; here the whole word of `STRK 1`. -/
theorem test_decodeTableWord : decodeTableWord 32 0x04010000 = some (.strk 1) := rfl

/-! ### WellFormed: an ill-formed term for each check, and the terms beside it -/

theorem test_wf_strk_low : (Instr.strk 0).wf = false ∧ (Instr.strk 1).wf = true := by decide
theorem test_wf_strk_high : (Instr.strk 11).wf = false ∧ (Instr.strk 10).wf = true := by decide
theorem test_wf_stsk_low : (Instr.stsk 0).wf = false ∧ (Instr.stsk 1).wf = true := by decide
theorem test_wf_stsk_high : (Instr.stsk 3).wf = false ∧ (Instr.stsk 2).wf = true := by decide
theorem test_wf_minit_cfb : (Instr.minit .cfb 17).wf = false ∧ (Instr.minit .cfb 16).wf = true := by
  decide
theorem test_wf_minit_mac : (Instr.minit .mac 17).wf = false ∧ (Instr.minit .mac 16).wf = true := by
  decide
theorem test_wf_minit_others : (Instr.minit .ecb 1).wf = false ∧ (Instr.minit .ctr 1).wf = false ∧
    (Instr.minit .ofb 1).wf = false ∧ (Instr.minit .cbc 1).wf = false := by decide

/-! ### One step of each command -/

/-- What a next state shows. -/
def shows {α : Type} (o : Host.Outcome State Fault Refusal) (f : State → α) : Option α :=
  match o with
  | .next t => some (f t)
  | .fault _ => none
  | .refused _ => none

/-- The master key of 41_key_schedule.md R156. -/
def exampleKey : List Byte :=
  bytesBE 32 0x8899aabbccddeeff0011223344556677fedcba98765432100123456789abcdef

/-- The ten round keys of 41_key_schedule.md R156. -/
def exampleRoundKeys : RoundKeys :=
  ⟨#[block 0x8899aabbccddeeff0011223344556677, block 0xfedcba98765432100123456789abcdef,
    block 0xdb31485315694343228d6aef8cc78c44, block 0x3d4553d8e9cfec6815ebadc40a9ffd04,
    block 0x57646468c44a5e28d3e59246f429f1ac, block 0xbd079435165c6432b532e82834da581b,
    block 0x51e640757e8745de705727265a0098b1, block 0x5a7925017b9fdd3ed72a91a22286f984,
    block 0xbb44e25378c73123a5f32f73cdb6e517, block 0x72e9dd7416bcf45b755dbaa88e4a4043], rfl⟩

/-- `IV16` of 95_test_vectors.md. -/
def exampleGamma : List Byte := bytesBE 16 0x1234567890abcef00000000000000000

/-- A device with the example's keys everywhere, a block, an instance of a mode, a gamma and an input. -/
def device (m : Mode) (g i : List Byte) : State :=
  { State.reset with
    mkey := fixedOf 32 exampleKey, keyv := true, blkv := true, rk := exampleRoundKeys, rkv := true,
    mrk := exampleRoundKeys, mode := m, miv := true, gamma := g, ibuf := Memory.ofBytes i }

/-- The device with a working block. -/
def withBlock (n : Nat) : State := (device .ecb [] []).setBlk (block n)

theorem test_nop_keeps_status :
    shows (exec .nop (device .ecb [] [])) (fun t => csrWord t .status) = some 0x000000F0 := by decide

theorem test_ldk_then_status : shows (exec .ldk (State.reset.setInput exampleKey))
    (fun t => (csrWord t .status, t.mkey.toList)) = some (0x00000010, exampleKey) := by decide +kernel

theorem test_ldk_length :
    shows (exec .ldk (State.reset.setInput (zeros 31))) (fun t => csrWord t .status) = some 3 := by
  decide +kernel

theorem test_ldb : shows (exec .ldb (State.reset.setInput exampleGamma))
    (fun t => (csrWord t .status, t.blk.toList)) = some (0x00000020, exampleGamma) := by decide +kernel

theorem test_stb : shows (exec .stb (withBlock 5)) (fun t => (t.obuf.read 15, t.obuf.read 16, t.olen)) =
    some (some 5, none, 16) := by decide +kernel

theorem test_strk_last : shows (exec (.strk 10) (device .ecb [] [])) (fun t => t.obuf.bytes) =
    some (bytesBE 16 0x72e9dd7416bcf45b755dbaa88e4a4043) := by decide +kernel

theorem test_stg : shows (exec .stg (device .cbc exampleGamma [])) (fun t => t.obuf.bytes) =
    some exampleGamma := by decide +kernel

theorem test_stsk_second : shows (exec (.stsk 2) ((device .mac [] []).setSubkeys (block 1, block 2)))
    (fun t => t.obuf.bytes) = some (bytesBE 16 2) := by decide +kernel

theorem test_stsk_outside_mac :
    shows (exec (.stsk 1) (device .cbc [] [])) (fun t => csrWord t .status) = some 0x000000F2 := by
  decide

/-- The example of 40_galois_transform.md R134. -/
theorem test_sub : shows (exec .sub (withBlock 0xffeeddccbbaa99881122334455667700)) State.blk =
    some (block 0xb66cd8887d38e8d77765aeea0c9a7efc) := by decide +kernel

/-- The example of 40_galois_transform.md R135. -/
theorem test_isub : shows (exec .isub (withBlock 0xb66cd8887d38e8d77765aeea0c9a7efc)) State.blk =
    some (block 0xffeeddccbbaa99881122334455667700) := by decide +kernel

/-- The example of 40_galois_transform.md R136. -/
theorem test_lin : shows (exec .lin (withBlock 0x64a59400000000000000000000000000)) State.blk =
    some (block 0xd456584dd0e3e84cc3166e4b7fa2890d) := by decide +kernel

/-- The example of 40_galois_transform.md R137. -/
theorem test_ilin : shows (exec .ilin (withBlock 0xd456584dd0e3e84cc3166e4b7fa2890d)) State.blk =
    some (block 0x64a59400000000000000000000000000) := by decide +kernel

/-- Round keys 2 and 4 of 41_key_schedule.md R156. -/
theorem test_kexp :
    shows (exec .kexp (device .ecb [] [])) (fun t => (roundKey t.rk 2, roundKey t.rk 4)) =
      some (block 0xfedcba98765432100123456789abcdef, block 0x3d4553d8e9cfec6815ebadc40a9ffd04) := by
  decide +kernel

theorem test_kexp_without_key :
    shows (exec .kexp State.reset) (fun t => csrWord t .status) = some 4 := by decide

/-- The example of 42_block_cipher.md R168. -/
theorem test_encb : shows (exec .encb (withBlock 0x1122334455667700ffeeddccbbaa9988)) State.blk =
    some (block 0x7f679d90bebc24305a468d42b9d4edcd) := by decide +kernel

/-- The example of 42_block_cipher.md R169. -/
theorem test_decb : shows (exec .decb (withBlock 0x7f679d90bebc24305a468d42b9d4edcd)) State.blk =
    some (block 0x1122334455667700ffeeddccbbaa9988) := by decide +kernel

/-- The example of 10_state.md R35. -/
theorem test_minit_cfb : shows (exec (.minit .cfb 8) (device .ecb exampleGamma []))
    (fun t => (csrWord t .modecfg, t.glen)) = some (0x00080804, 0) := by decide

theorem test_minit_mac_default : shows (exec (.minit .mac 0) (device .cfb [] []))
    (fun t => csrWord t .modecfg) = some 0x00081005 := by decide

theorem test_mcfg : shows (exec .mcfg (device .cbc [] exampleGamma)) State.gamma =
    some exampleGamma := by decide +kernel

theorem test_mcfg_capacity : shows (exec .mcfg (device .cbc exampleGamma (zeros 65)))
    (fun t => (csrWord t .status, t.glen)) = some (0x000000F6, 16) := by decide +kernel

/-- Row CBC-2 of 96_test_vectors_modes.md. -/
theorem test_menc_cbc : shows (exec .menc (device .cbc exampleGamma [1, 2, 3, 4, 5]))
    (fun t => (t.obuf.bytes, t.gamma)) =
      some (bytesBE 16 0xf6e15ef14d8b2363811d9c33521a5870,
        bytesBE 16 0xf6e15ef14d8b2363811d9c33521a5870) := by decide +kernel

/-- Row CTR-3 of 96_test_vectors_modes.md: a partial last block, and the counter wraps. -/
theorem test_menc_ctr_wraps : shows (exec .menc (device .ctr (List.replicate 16 0xff)
      (bytesBE 17 0x1122334455667700ffeeddccbbaa998800))) (fun t => (t.obuf.bytes, t.gamma)) =
    some (bytesBE 17 0x88d1bd4ac1e7fb9b1e1579eb3bad4af594, bytesBE 16 1) := by decide +kernel

/-- Row ECB-3d of 96_test_vectors_modes.md. -/
theorem test_mdec_ecb :
    shows (exec .mdec (device .ecb [] (bytesBE 16 0xb299676ebfd5b4d0887d96ba52d55837)))
      (fun t => t.obuf.bytes) = some [0x41] := by decide +kernel

/-- Row CFB-7d of 96_test_vectors_modes.md: unpadding eats data. -/
theorem test_mdec_cfb_hazard :
    shows (exec .mdec (device .cfb exampleGamma (bytesBE 16 0xe0b66bf9906da0dc229c8865f71a363f)))
      (fun t => (t.obuf.bytes, t.gamma)) =
    some ([0x00, 0x01], bytesBE 16 0xe0b66bf9906da0dc229c8865f71a363f) := by decide +kernel

/-- The word placed for the host's check is what the next step runs. -/
theorem test_withFetchWord : shows (step (State.reset.withFetchWord 32 0x03000000))
    (fun t => (csrWord t .status, t.inputs)) = some (4, []) := by decide

/-! ### Witnesses: states and operands that meet the hypotheses of each statement

The name of the statement stands in the name of its witness. Where a statement has several clauses,
each has its own conjunct here, at the ends of its range. -/

/-- A small build, so that a message can be too long for it. -/
def smallBuild : Build := { mmax := 33, gmax := 32, unpadRule := .zerosThenMark }

/-- A device with a latched fault. -/
def faultyDevice : State := { device .cfb exampleGamma [1] with fault := some .refused }

/-- A device with one event to come. -/
def facing (s : State) (e : Event) : State := s.setInputs [e]

/-- A state with the invariant: a key is loaded, its expansion is not made. -/
def keyLoaded : State := State.reset.loadKey (fixedOf 32 exampleKey)

theorem keyLoaded_inv : keyLoaded.Inv where
  build_valid := by decide
  ibuf_wf := rfl
  obuf_wf := rfl
  ilen_le := by decide
  olen_le := by decide
  glen_le := by decide
  seg_range := by decide
  taglen_range := by decide
  seg_default := by decide
  taglen_default := by decide
  rk_derived := fun h => by cases h
  mrk_derived := fun h => by cases h
  subkeys_derived := fun h => by cases h
  no_instance := by decide

theorem witness_EncodedCommandDecodesBack :
    (Instr.strk 1).wf = true ∧ (Instr.strk 10).wf = true ∧ (Instr.stsk 2).wf = true ∧
      (Instr.minit .mac 16).wf = true ∧ (Instr.minit .ctr 0).wf = true := by decide

theorem witness_DecodedCommandEncodesToItsWord :
    decode 0x30050010 = .ok (.minit .mac 16) ∧ decode 0x06010000 = .ok (.stsk 1) := ⟨rfl, rfl⟩

theorem witness_StepRunsTheDecodedCommand :
    (facing (device .ecb [] []) (.host (.cmd 0x03000000))).inputs = [.host (.cmd 0x03000000)] ∧
      decode 0x03000000 = .ok .stb := ⟨rfl, rfl⟩

theorem witness_IllegalWordLatchesIllegalCommand :
    (facing State.reset (.host (.cmd 0x33000001))).inputs = [.host (.cmd 0x33000001)] ∧
      idle (facing State.reset (.host (.cmd 0x33000001))) ∧ ¬ legalWord 0x33000001 :=
  ⟨rfl, rfl, by unfold legalWord; decide⟩

/-- Each of the four host operations on a faulted device. -/
theorem witness_FaultedDeviceIgnoresLoadsAndCommands : ∀ op : HostOp,
    (facing faultyDevice (.host op)).inputs = [.host op] ∧
      (facing faultyDevice (.host op)).fault ≠ none :=
  fun _ => ⟨rfl, by simp [facing, faultyDevice]⟩

/-- `STB` before any `LDB`. -/
theorem witness_RaisedFaultChangesNothingElse :
    step (facing State.reset (.host (.cmd 0x03000000))) = .next (State.reset.raise .notReady) ∧
      idle (facing State.reset (.host (.cmd 0x03000000))) ∧
      (State.reset.raise .notReady).fault = some .notReady := ⟨rfl, rfl, rfl⟩

/-- Another illegal word on a faulted device. -/
theorem witness_LatchedFaultStaysUntilReset :
    step (facing faultyDevice (.host (.cmd 0xFF000000))) = .next faultyDevice ∧
      (facing faultyDevice (.host (.cmd 0xFF000000))).fault = some .refused ∧
      ¬ resets (facing faultyDevice (.host (.cmd 0xFF000000))) :=
  ⟨rfl, rfl, by unfold resets; decide⟩

/-- At reset no register is valid, so each of the four clauses holds there, for each command it names. -/
theorem witness_UnwrittenRegistersRaiseNotReady :
    idle State.reset ∧ State.reset.keyv = false ∧ State.reset.rkv = false ∧
      State.reset.blkv = false ∧ State.reset.miv = false ∧ Instr.kexp.wf = true ∧
      (Instr.strk 1).wf = true ∧ (Instr.strk 10).wf = true ∧ (Instr.minit .cfb 16).wf = true ∧
      (Instr.stsk 2).wf = true ∧ Instr.mdec.wf = true := ⟨rfl, by decide⟩

/-- Each way to fail the gamma check, one byte off. -/
theorem witness_GammaCheckFailsAsListed :
    (idle (device .ctr (zeros 15) []) ∧ (device .ctr (zeros 15) []).miv = true) ∧
      (device .ctr (zeros 15) []).glen < 16 ∧ (device .ofb (zeros 31) []).glen < 32 ∧
      (device .cbc (zeros 15) []).glen < 16 ∧ (device .cfb (zeros 15) []).glen < 16 ∧
      (device .cfb (zeros 17) []).glen % (device .cfb (zeros 17) []).seg ≠ 0 ∧
      16 < (device .ctr (zeros 17) []).glen ∧ 32 < (device .ofb (zeros 33) []).glen :=
  ⟨⟨rfl, rfl⟩, by decide⟩

theorem witness_InputLengthFaults :
    idle (device .cbc (zeros 16) (zeros 17)) ∧ (device .cbc (zeros 16) (zeros 31)).ilen ≠ 32 ∧
      (device .cbc (zeros 16) (zeros 17)).ilen ≠ 16 ∧ (device .cbc (zeros 16) (zeros 17)).miv = true ∧
      gammaReady (device .cbc (zeros 16) (zeros 17)) ∧
      (device .cbc (zeros 16) (zeros 17)).ilen % 16 ≠ 0 ∧
      gammaReady (device .ecb [] (zeros 15)) ∧ (device .ecb [] (zeros 15)).ilen % 16 ≠ 0 ∧
      gammaReady (device .cfb (zeros 16) (zeros 1)) ∧
      (device .cfb (zeros 16) (zeros 1)).ilen % (device .cfb (zeros 16) (zeros 1)).seg ≠ 0 := by
  unfold idle gammaReady; decide

theorem witness_UnsupportedOperationsAsListed :
    idle (device .mac [] []) ∧ (device .mac [] []).miv = true ∧ (device .mac [] []).mode = .mac ∧
      idle (device .cbc [] []) ∧ (device .cbc [] []).miv = true ∧ (device .cbc [] []).mode ≠ .mac ∧
      (Instr.stsk 1).wf = true ∧ (Instr.stsk 2).wf = true := by unfold idle; decide

/-- A faulted device; a message one byte too long for the build; the empty and the longest one. -/
theorem witness_HostLoadReplacesTheInput :
    (facing faultyDevice (.host (.load [1]))).inputs = [.host (.load [1])] ∧
      (facing faultyDevice (.host (.load [1]))).fault ≠ none ∧
      idle (State.resetOf smallBuild) ∧ (State.resetOf smallBuild).build.mmax < (zeros 34).length ∧
      (zeros 33).length ≤ (State.resetOf smallBuild).build.mmax ∧
      ([] : List Byte).length ≤ (State.resetOf smallBuild).build.mmax := by unfold idle; decide

theorem witness_HostStoreReturnsTheOutput :
    (facing (State.reset.output [7, 9]) (.host .store)).inputs = [.host .store] ∧
      (facing (State.reset.output [7, 9]) (.host .store)).obuf.wf = true := by decide

theorem witness_HostCsrReadReturnsTheRegister :
    csrOfNumber 0 = some .status ∧ csrOfNumber 6 = some .capg ∧
      (facing keyLoaded (.host (.csrRead .capg))).inputs = [.host (.csrRead .capg)] ∧
      keyLoaded.Inv ∧ csrOfNumber 2 = some .ilen ∧ csrOfNumber 3 = some .olen ∧
      csrOfNumber 4 = some .glen ∧ csrOfNumber 5 = some .capm :=
  ⟨rfl, rfl, rfl, keyLoaded_inv, rfl, rfl, rfl, rfl⟩

/-- Reset, a key in the input buffer, then `LDK`, `KEXP` and `MINIT`: no fault. -/
theorem witness_StatusRegisterLayout :
    ∃ s t u v : State, s.blkv = false ∧ exec .ldk s = .next t ∧ exec .kexp t = .next u ∧
      exec (.minit .cfb 16) u = .next v ∧ idle v := by
  exact ⟨State.reset.setInput exampleKey, _, _, _, rfl,
    (exec_ldk _).trans (command_performs rfl (by decide +kernel) _),
    (exec_kexp _).trans (command_performs rfl rfl _),
    (exec_minit _ _ _).trans (command_performs rfl rfl _), rfl⟩

theorem witness_ModeConfigRegisterLayout :
    sizesLegal State.reset ∧ sizesLegal { State.reset with seg := 1, taglen := 16 } ∧
      idle (device .ecb [] []) ∧
      ∃ t, exec (.minit .cfb 8) (device .ecb [] []) = .next t ∧ idle t := by
  refine ⟨?_, ?_, rfl, _, (exec_minit _ _ _).trans (command_performs rfl rfl _), rfl⟩ <;> unfold sizesLegal <;> decide

theorem witness_ResetGivesTheStatedValues :
    (facing faultyDevice .reset).inputs = [.reset] := rfl

/-- Every clause: `LDK`, `LDB`, `KEXP`, `MINIT` where the bit is 0, `LDK` where `RKV` is 1, reset where
the bits are 1. -/
theorem witness_ValidityBitsChangeOnlyAsListed :
    shows (step (facing (State.reset.setInput exampleKey) (.host (.cmd 0x01000000)))) State.keyv =
        some true ∧
      shows (step (facing (State.reset.setInput exampleGamma) (.host (.cmd 0x02000000)))) State.blkv =
        some true ∧
      shows (step (facing keyLoaded (.host (.cmd 0x20000000)))) State.rkv = some true ∧
      shows (step (facing (State.reset.setRoundKeys exampleRoundKeys) (.host (.cmd 0x30050000))))
        State.miv = some true ∧
      shows (step (facing (device .ecb [] exampleKey) (.host (.cmd 0x01000000)))) State.rkv =
        some false ∧
      shows (step (facing (device .ecb [] []) .reset)) (fun t => (t.keyv, t.blkv, t.rkv, t.miv)) =
        some (false, false, false, false) := by decide +kernel

/-- A register really changes under a command of each clause. -/
theorem witness_CommandsWriteOnlyTheirRegisters :
    shows (exec .ldb (State.reset.setInput exampleGamma)) (fun t => decide (t.blk = zeroBlock)) =
        some false ∧
      shows (exec .ldk (State.reset.setInput exampleKey))
        (fun t => decide (t.mkey = State.reset.mkey)) = some false ∧
      shows (exec .kexp keyLoaded) (fun t => decide (t.rk = State.reset.rk)) = some false ∧
      shows (exec (.minit .cfb 8) (State.reset.setRoundKeys exampleRoundKeys))
        (fun t => (decide (t.mrk = State.reset.mrk), t.mode, t.seg)) = some (false, .cfb, 8) ∧
      shows (exec .mcfg (device .cbc [] [1])) State.gamma = some [1] ∧
      shows (exec .stg (device .cbc [1] [])) (fun t => t.obuf) = some [(0, 1)] := by decide +kernel

theorem witness_StepKeepsTheInvariant :
    keyLoaded.Inv ∧ ∃ t, step keyLoaded = .next t := ⟨keyLoaded_inv, _, rfl⟩

/-- The smallest capacities that 00_scope.md R10 allows, and the largest of the model's bound. -/
theorem witness_ResetHasTheInvariant :
    Build.Valid { mmax := 32, gmax := 32, unpadRule := .lastAnywhere } ∧
      Build.Valid { mmax := 2 ^ 32 - 17, gmax := 64, unpadRule := .zerosThenMark } := by decide

/-- Two devices after reset that differ in a working block nothing has written. -/
theorem witness_GuardedContentsAreUnobservable :
    State.reset.SameView (State.reset.setBlk (block 1)) ∧ State.reset ≠ State.reset.setBlk (block 1) ∧
      (∃ t, step State.reset = .next t) ∧ ∃ t, step (State.reset.setBlk (block 1)) = .next t :=
  ⟨by constructor <;> first | rfl | (intro h; cases h), by decide, ⟨_, rfl⟩, ⟨_, rfl⟩⟩

theorem witness_SubstituteCommandsActBytewise :
    idle (device .ecb [] []) ∧ (device .ecb [] []).blkv = true := ⟨rfl, rfl⟩

theorem witness_DiffusionCommandsApplyTheMatrix :
    idle (device .ecb [] []) ∧ (device .ecb [] []).blkv = true := ⟨rfl, rfl⟩

/-- The hypotheses hold for each of the six pairs. -/
theorem witness_InverseCommandsUndoEachOther :
    ∀ i ∈ [Instr.sub, .isub, .lin, .ilin, .encb, .decb],
      idle (device .ecb [] []) ∧ (device .ecb [] []).blkv = true ∧ (device .ecb [] []).rkv = true ∧
        ∃ t, exec i (device .ecb [] []) = .next t := by
  intro i hi
  refine ⟨rfl, rfl, rfl, ?_⟩
  simp only [List.mem_cons, List.not_mem_nil, or_false] at hi
  rcases hi with rfl | rfl | rfl | rfl | rfl | rfl
  · exact ⟨_, (exec_sub _).trans (command_performs rfl rfl _)⟩
  · exact ⟨_, (exec_isub _).trans (command_performs rfl rfl _)⟩
  · exact ⟨_, (exec_lin _).trans (command_performs rfl rfl _)⟩
  · exact ⟨_, (exec_ilin _).trans (command_performs rfl rfl _)⟩
  · exact ⟨_, (exec_encb _).trans (command_performs rfl rfl _)⟩
  · exact ⟨_, (exec_decb _).trans (command_performs rfl rfl _)⟩

theorem witness_KeyExpansionCommand :
    idle (device .ecb [] []) ∧ (device .ecb [] []).keyv = true := ⟨rfl, rfl⟩

/-- The first and the last constant the key schedule uses, and the largest index of a byte. -/
theorem witness_RoundConstantEndsInItsIndex : 1 < 256 ∧ 32 < 256 ∧ 255 < 256 := by decide

theorem witness_BlockCommandsRunNineRounds :
    idle (device .ecb [] []) ∧ (device .ecb [] []).rkv = true ∧ (device .ecb [] []).blkv = true :=
  ⟨rfl, rfl, rfl⟩

theorem witness_LoadKeyCommand :
    idle (State.reset.setInput exampleKey) ∧ (State.reset.setInput exampleKey).ilen = 32 :=
  ⟨rfl, by decide⟩

theorem witness_LoadBlockCommand :
    idle (State.reset.setInput exampleGamma) ∧ (State.reset.setInput exampleGamma).ilen = 16 :=
  ⟨rfl, by decide⟩

theorem witness_StoreBlockAndRoundKeyCommands :
    idle (device .ecb [] []) ∧ (device .ecb [] []).blkv = true ∧ (device .ecb [] []).rkv = true :=
  ⟨rfl, rfl, rfl⟩

/-- With and without a gamma, and on a Mac instance. -/
theorem witness_StoreGammaAndSubkeyCommands :
    idle (device .cbc [] []) ∧ (device .cbc exampleGamma []).miv = true ∧
      idle (device .mac [] []) ∧ (device .mac [] []).miv = true ∧ (device .mac [] []).mode = .mac :=
  ⟨rfl, rfl, rfl, rfl, rfl⟩

/-- Both sizes with a default, at 0, 1 and 16, and a mode without a size. -/
theorem witness_MinitBuildsTheInstance :
    idle (device .ecb [] []) ∧ (device .ecb [] []).rkv = true ∧ (Instr.minit .cfb 0).wf = true ∧
      (Instr.minit .cfb 1).wf = true ∧ (Instr.minit .cfb 16).wf = true ∧
      (Instr.minit .mac 0).wf = true ∧ (Instr.minit .mac 16).wf = true ∧
      (Instr.minit .ecb 0).wf = true := ⟨rfl, by decide⟩

/-- The longest gamma that fits, and one byte more. -/
theorem witness_McfgStoresTheGamma :
    idle (device .ctr [] (zeros 64)) ∧ (device .ctr [] (zeros 64)).miv = true ∧
      (device .ctr [] (zeros 64)).ilen ≤ (device .ctr [] (zeros 64)).build.gmax ∧
      (device .ctr [] (zeros 65)).build.gmax < (device .ctr [] (zeros 65)).ilen :=
  ⟨rfl, rfl, by decide, by decide⟩

/-- The empty message and whole blocks. -/
theorem witness_EcbTreatsEachBlockByItself :
    inMode (device .ecb [] []) .ecb ∧ (device .ecb [] []).ilen % 16 = 0 ∧
      inMode (device .ecb [] (zeros 32)) .ecb ∧ (device .ecb [] (zeros 32)).ilen % 16 = 0 := by
  unfold inMode idle; decide

theorem witness_CtrEncryptsAnIncreasingCounter :
    inMode (device .ctr (zeros 16) (zeros 17)) .ctr ∧ (device .ctr (zeros 16) (zeros 17)).glen = 16 := by
  unfold inMode idle; decide

theorem witness_OfbShiftsTheKeystreamAlone :
    inMode (device .ofb (zeros 32) (zeros 17)) .ofb ∧ (device .ofb (zeros 32) (zeros 17)).glen = 32 := by
  unfold inMode idle; decide

/-- The shortest window, and one that is not whole blocks. -/
theorem witness_CbcChainsThroughTheWindow :
    inMode (device .cbc (zeros 16) (zeros 32)) .cbc ∧ 16 ≤ (device .cbc (zeros 16) (zeros 32)).glen ∧
      (device .cbc (zeros 16) (zeros 32)).ilen % 16 = 0 ∧ 16 ≤ (device .cbc (zeros 20) [1]).glen := by
  unfold inMode idle; decide

/-- Segments of 16, of 1 and of 5 bytes, a ragged and an aligned message. -/
theorem witness_CfbFeedsBackTheCiphertext :
    inMode (device .cfb (zeros 16) [1]) .cfb ∧ 16 ≤ (device .cfb (zeros 16) [1]).glen ∧
      (device .cfb (zeros 16) [1]).glen % (device .cfb (zeros 16) [1]).seg = 0 ∧
      sizesLegal (device .cfb (zeros 16) [1]) ∧ sizesLegal { device .cfb (zeros 16) [1] with seg := 1 } ∧
      (device .cfb (zeros 16) [1]).ilen % (device .cfb (zeros 16) [1]).seg ≠ 0 ∧
      (device .cfb (zeros 16) (zeros 16)).ilen % 16 = 0 ∧
      (device .cfb (zeros 20) []).glen % { device .cfb (zeros 20) [] with seg := 5 }.seg = 0 := by
  unfold inMode idle sizesLegal; decide

/-- The empty, an aligned and a ragged message. -/
theorem witness_MacTagOfTheMessage :
    inMode (device .mac [] []) .mac ∧ sizesLegal (device .mac [] []) ∧ (device .mac [] []).ilen = 0 ∧
      inMode (device .mac [] (zeros 16)) .mac ∧ 0 < (device .mac [] (zeros 16)).ilen ∧
      inMode (device .mac [] [1]) .mac ∧ (device .mac [] [1]).ilen % 16 ≠ 0 := by
  unfold inMode idle sizesLegal; decide

/-- Every mode. -/
theorem witness_ModeCommandLengths :
    gammaReady (device .ecb [] []) ∧ gammaReady (device .ctr (zeros 16) [1]) ∧
      gammaReady (device .ofb (zeros 32) [1]) ∧ gammaReady (device .cbc (zeros 16) (zeros 16)) ∧
      gammaReady (device .cfb (zeros 16) (zeros 16)) ∧ gammaReady (device .mac [] [1]) ∧
      idle (device .mac [] [1]) ∧ (device .mac [] [1]).miv = true ∧ sizesLegal (device .mac [] [1]) := by
  refine ⟨?_, ?_, ?_, ?_, ?_, ?_, ?_, ?_, ?_⟩ <;>
    first | rfl | (unfold gammaReady; decide) | (unfold sizesLegal; decide)

theorem witness_ModesDecryptWhatTheyEncrypt :
    idle (device .cbc (zeros 16) [1]) ∧ (device .cbc (zeros 16) [1]).miv = true ∧
      gammaReady (device .cbc (zeros 16) [1]) ∧ (device .cbc (zeros 16) [1]).mode ≠ .cfb ∧
      (device .cbc (zeros 16) [1]).mode ≠ .mac ∧ gammaReady (device .ecb [] [1]) ∧
      gammaReady (device .ctr (zeros 16) [1]) ∧ gammaReady (device .ofb (zeros 32) [1]) := by
  unfold gammaReady idle; decide

/-- A ragged message, and an aligned one that holds the mark. -/
theorem witness_CfbRoundTripExactlyWhenUnpaddingSpares :
    inMode (device .cfb (zeros 16) [1]) .cfb ∧ gammaReady (device .cfb (zeros 16) [1]) ∧
      sizesLegal (device .cfb (zeros 16) [1]) ∧
      inMode (device .cfb (zeros 16) (0x80 :: zeros 15)) .cfb ∧
      gammaReady (device .cfb (zeros 16) (0x80 :: zeros 15)) := by
  unfold inMode gammaReady idle sizesLegal; decide

theorem witness_CtrSplitsAtBlockBoundaries :
    inMode (device .ctr (zeros 16) []) .ctr ∧ (device .ctr (zeros 16) []).glen = 16 ∧
      (zeros 16).length % 16 = 0 ∧ (zeros 0).length % 16 = 0 := by
  unfold inMode idle; decide

/-- `LDK` and `KEXP` complete under a live Mac instance, and so does its `MENC`. -/
theorem witness_KeyChangeLeavesTheInstanceAlone :
    (∃ t u, exec .ldk (device .mac [] exampleKey) = .next t ∧ t.fault = none ∧
      exec .menc (device .mac [] exampleKey) = .next u) ∧
    (∃ t u, exec .kexp (device .mac [] exampleKey) = .next t ∧ t.fault = none ∧
      exec .menc (device .mac [] exampleKey) = .next u) :=
  ⟨⟨_, _, (exec_ldk _).trans (command_performs rfl (by decide +kernel) _), rfl,
      (exec_menc _).trans (command_performs rfl (by decide +kernel) _)⟩,
    ⟨_, _, (exec_kexp _).trans (command_performs rfl rfl _), rfl,
      (exec_menc _).trans (command_performs rfl (by decide +kernel) _)⟩⟩

/-- The shortest block, and an index of the zeros. -/
theorem witness_PaddingGrowsToTheNextMultiple :
    1 ≤ 1 ∧ [(1 : Byte)].length < 2 ∧ 2 < (pad [1] 16).length := by decide

/-- Strings of each kind the statement speaks of. -/
theorem witness_UnpaddingScansAsRead :
    (0x80 : Byte) ∉ ([1, 0] : List Byte) ∧ (0x80 : Byte) ∉ ([] : List Byte) ∧
      (∀ u n, ([0x80, 1] : List Byte) ≠ u ++ (0x80 : Byte) :: zeros n) ∧
      ∃ b ∈ ([1] : List Byte), b ≠ 0 := by
  refine ⟨by decide, by decide, ?_, 1, by decide, by decide⟩
  intro u n h
  match u, n with
  | [], 0 => simp [zeros] at h
  | [], n + 1 => simp [zeros, List.replicate_succ] at h
  | [_], n => simp at h
  | _ :: _ :: u, n => simp at h

/-- The largest value without a carry, and the smallest with one. -/
theorem witness_DoublingIsAShiftWithReduction :
    be (block 0x7fffffffffffffffffffffffffffffff).toList < 2 ^ 127 ∧
      2 ^ 127 ≤ be (block 0x80000000000000000000000000000000).toList := by decide +kernel

theorem witness_LoadedBytesComeBackWhole :
    idle (State.reset.setInput exampleGamma) ∧ (State.reset.setInput exampleGamma).ilen = 16 ∧
      idle (State.reset.setInput exampleKey) ∧ (State.reset.setInput exampleKey).ilen = 32 :=
  ⟨rfl, by decide, rfl, by decide⟩

end Sys2Proof.Tests
end

section
/-!
PROOFS. Every command as its checks and its effect, and what each effect leaves in each field: the layer
the proofs about the state (10_state.md) stand on.
-/

namespace Sys2Proof.Machine

open Sys2Proof.Spec

/-! ### A command is its checks and its effect -/

/-- The checks of a command, in the order of its rule; `exec_eq_command` ties them to `exec`. -/
def checksOf (i : Instr) (s : State) : List Check :=
  match i with
  | .nop => []
  | .ldk => [needLength s 32]
  | .ldb => [needLength s 16]
  | .stb => [needBlk s]
  | .strk k => [needOperands (.strk k), needRoundKeys s]
  | .stg => [needInstance s]
  | .stsk j =>
    [needOperands (.stsk j), needInstance s,
      { holds := decide (s.mode = .mac), code := .unsupportedOperation }]
  | .sub => [needBlk s]
  | .isub => [needBlk s]
  | .lin => [needBlk s]
  | .ilin => [needBlk s]
  | .kexp => [needKey s]
  | .encb => [needRoundKeys s, needBlk s]
  | .decb => [needRoundKeys s, needBlk s]
  | .minit m n => [needOperands (.minit m n), needRoundKeys s]
  | .mcfg =>
    [needInstance s, { holds := decide (s.ilen ≤ s.build.gmax), code := .capacityExceeded }]
  | .menc => needInstance s :: gammaChecks s ++ encryptChecks s
  | .mdec =>
    needInstance s :: { holds := decide (s.mode ≠ .mac), code := .unsupportedOperation } ::
      gammaChecks s ++ decryptChecks s

/-- The state a command leaves when all its checks pass; `exec_eq_command` ties it to `exec`. -/
def effectOf (i : Instr) (s : State) : State :=
  match i with
  | .nop => s
  | .ldk => s.loadKey (fixedOf 32 s.message)
  | .ldb => s.loadBlk (blockOf s.message)
  | .stb => s.output s.blk.toList
  | .strk k => s.output (roundKey s.rk k.toNat).toList
  | .stg => s.output s.gamma
  | .stsk j => s.output (subkey s j).toList
  | .sub => s.setBlk (sFwd s.blk)
  | .isub => s.setBlk (sInv s.blk)
  | .lin => s.setBlk (lFwd s.blk)
  | .ilin => s.setBlk (lInv s.blk)
  | .kexp => s.setRoundKeys (keyExpand s.mkey)
  | .encb => s.setBlk (encBlock s.rk s.blk)
  | .decb => s.setBlk (decBlock s.rk s.blk)
  | .minit m n => (s.newInstance m s.rk (segOperand m n) (tagOperand m n)).deriveSubkeys m s.rk
  | .mcfg => s.setGamma s.message
  | .menc => (s.setGamma (modeEncrypt s).2).output (modeEncrypt s).1
  | .mdec => (s.setGamma (modeDecrypt s).2).output (modeDecrypt s).1

/-- The meaning of every command: its checks, then its effect. -/
theorem exec_eq_command (i : Instr) (s : State) :
    exec i s = command s (checksOf i s) (effectOf i s) := by
  cases i <;> rfl

/-- Everything a command can do: nothing on a faulted device, its first failing check's fault, or its
effect. -/
theorem exec_cases {i : Instr} {s t : State} (h : exec i s = .next t) :
    (s.fault ≠ none ∧ t = s) ∨
    (s.fault = none ∧ ∃ f, firstFailure (checksOf i s) = some f ∧ t = s.raise f) ∨
    (s.fault = none ∧ firstFailure (checksOf i s) = none ∧ t = effectOf i s) :=
  command_cases (exec_eq_command i s ▸ h)

/-- A command that ends without a fault had none before it, passed its checks and had its effect. -/
theorem exec_completed {i : Instr} {s t : State} (h : exec i s = .next t) (ht : t.fault = none) :
    s.fault = none ∧ firstFailure (checksOf i s) = none ∧ t = effectOf i s := by
  rcases exec_cases h with ⟨hs, rfl⟩ | ⟨_, f, _, rfl⟩ | hdone
  · exact absurd ht hs
  · simp at ht
  · exact hdone

/-- A command that passes its checks on a device without a fault has its effect. -/
theorem exec_performs {i : Instr} {s : State} (hs : s.fault = none)
    (hok : firstFailure (checksOf i s) = none) : exec i s = .next (effectOf i s) :=
  (exec_eq_command i s).trans (command_performs hs hok _)

/-- A command whose checks fail raises the first failure. -/
theorem exec_raises {i : Instr} {s : State} {f : FaultCode} (hs : s.fault = none)
    (hf : firstFailure (checksOf i s) = some f) : exec i s = .next (s.raise f) :=
  (exec_eq_command i s).trans (command_raises hs hf _)

/-- A field that taking a fault leaves alone changes only as the command's effect changes it. -/
theorem effectOf_changes_of_exec {α : Type} {p : State → α} (hp : ∀ s f, p (s.raise f) = p s)
    {i : Instr} {s t : State} (h : exec i s = .next t) (hne : p t ≠ p s) :
    p (effectOf i s) ≠ p s := by
  rcases exec_cases h with ⟨_, rfl⟩ | ⟨_, f, _, rfl⟩ | ⟨_, _, rfl⟩
  · exact absurd rfl hne
  · exact absurd (hp s f) hne
  · exact hne

/-- A field that neither taking a fault nor the command's effect touches is as it was. -/
theorem exec_keeps {α : Type} {p : State → α} (hp : ∀ s f, p (s.raise f) = p s)
    {i : Instr} (he : ∀ s, p (effectOf i s) = p s) {s t : State} (h : exec i s = .next t) :
    p t = p s :=
  not_not.mp fun hne => effectOf_changes_of_exec hp h hne (he s)

/-! ### What a command's effect leaves in each field -/

@[simp] theorem effectOf_ibuf (i : Instr) (s : State) : (effectOf i s).ibuf = s.ibuf := by
  cases i <;> simp [effectOf]

@[simp] theorem effectOf_fault (i : Instr) (s : State) : (effectOf i s).fault = s.fault := by
  cases i <;> simp [effectOf]

@[simp] theorem effectOf_build (i : Instr) (s : State) : (effectOf i s).build = s.build := by
  cases i <;> simp [effectOf]

@[simp] theorem effectOf_inputs (i : Instr) (s : State) : (effectOf i s).inputs = s.inputs := by
  cases i <;> simp [effectOf]

@[simp] theorem effectOf_replies (i : Instr) (s : State) : (effectOf i s).replies = s.replies := by
  cases i <;> simp [effectOf]

/-- `KEYV` after a command (10_state.md R32). -/
theorem effectOf_keyv (i : Instr) (s : State) :
    (effectOf i s).keyv = if i = .ldk then true else s.keyv := by
  cases i <;> simp [effectOf]

/-- `BLKV` after a command (10_state.md R32). -/
theorem effectOf_blkv (i : Instr) (s : State) :
    (effectOf i s).blkv = if i = .ldb then true else s.blkv := by
  cases i <;> simp [effectOf]

/-- `RKV` after a command (10_state.md R32). -/
theorem effectOf_rkv (i : Instr) (s : State) :
    (effectOf i s).rkv = if i = .kexp then true else if i = .ldk then false else s.rkv := by
  cases i <;> simp [effectOf]

/-- `MIV` is changed by `MINIT` only (10_state.md R32). -/
theorem minit_of_effectOf_miv_ne {i : Instr} {s : State} (h : (effectOf i s).miv ≠ s.miv) :
    ∃ m n, i = .minit m n := by
  cases i <;> simp [effectOf] at h ⊢

@[simp] theorem effectOf_minit_miv (m : Mode) (n : BitVec 16) (s : State) :
    (effectOf (.minit m n) s).miv = true := by
  simp [effectOf]

/-- No command clears `MIV` (10_state.md R32). -/
theorem effectOf_keeps_miv {i : Instr} {s : State} (h : s.miv = true) :
    (effectOf i s).miv = true := by
  by_contra hne
  obtain ⟨m, n, rfl⟩ := minit_of_effectOf_miv_ne (fun he => hne (he.trans h))
  exact hne (effectOf_minit_miv m n s)

theorem effectOf_mkey (i : Instr) (s : State) :
    (effectOf i s).mkey = if i = .ldk then fixedOf 32 s.message else s.mkey := by
  cases i <;> simp [effectOf]

theorem effectOf_rk (i : Instr) (s : State) :
    (effectOf i s).rk = if i = .kexp then keyExpand s.mkey else s.rk := by
  cases i <;> simp [effectOf]

end Sys2Proof.Machine
end

section
/-!
PROOFS. What a step can change, which command writes which register, and the layouts of `STATUS` and
`MODECFG` (10_state.md R32, R34, R35, R43).
-/

namespace Sys2Proof.Machine

open Sys2Proof.Spec

/-! ### Every step has a next state -/

theorem command_completes {s e : State} (he : e.inputs = s.inputs) (cs : List Check) :
    ∃ t, command s cs e = .next t ∧ t.inputs = s.inputs := by
  by_cases hs : s.fault = none
  · cases hf : firstFailure cs with
    | none => exact ⟨e, command_performs hs hf e, he⟩
    | some f => exact ⟨s.raise f, command_raises hs hf e, rfl⟩
  · exact ⟨s, command_faulted hs cs e, rfl⟩

theorem exec_completes (i : Instr) (s : State) :
    ∃ t, exec i s = .next t ∧ t.inputs = s.inputs :=
  exec_eq_command i s ▸ command_completes (effectOf_inputs i s) _

theorem hostLoad_completes (m : List Byte) (s : State) :
    ∃ t, hostLoad m s = .next t ∧ t.inputs = s.inputs :=
  command_completes (State.setInput_inputs s m) _

theorem hostCmd_completes (w : Word) (s : State) :
    ∃ t, hostCmd w s = .next t ∧ t.inputs = s.inputs := by
  by_cases hs : s.fault = none
  · rw [hostCmd_idle hs]
    cases decode w with
    | error e => exact ⟨_, rfl, rfl⟩
    | ok i => exact exec_completes i s
  · exact ⟨s, hostCmd_faulted hs w, rfl⟩

/-- An event is performed without touching the events still to come. -/
theorem perform_completes (e : Event) (s : State) :
    ∃ t, perform e s = .next t ∧ t.inputs = s.inputs := by
  match e with
  | .reset => exact ⟨_, rfl, rfl⟩
  | .host (.load m) => exact hostLoad_completes m s
  | .host (.cmd w) => exact hostCmd_completes w s
  | .host .store => exact ⟨_, rfl, rfl⟩
  | .host (.csrRead c) => exact ⟨_, rfl, rfl⟩

theorem step_completes (s : State) : ∃ t, step s = .next t ∧ t.inputs = s.inputs.tail := by
  cases hi : s.inputs with
  | nil => exact ⟨s, step_nil hi, hi⟩
  | cons e es =>
    rw [step_cons hi]
    exact perform_completes e (s.setInputs es)

/-- Settles O6: a command answers by its checks, a step by the event it takes. -/
theorem everyStepCompletes : Obligations.EveryStepCompletes :=
  ⟨step_completes, exec_completes⟩

/-! ### What a step can change -/

/-- Everything `HostLoad` can do. -/
theorem hostLoad_cases {m : List Byte} {s t : State} (h : hostLoad m s = .next t) :
    t = s ∨ (∃ f, t = s.raise f) ∨ (m.length ≤ s.build.mmax ∧ t = s.setInput m) := by
  rcases command_cases h with ⟨_, rfl⟩ | ⟨_, f, _, rfl⟩ | ⟨_, hok, rfl⟩
  · exact .inl rfl
  · exact .inr (.inl ⟨f, rfl⟩)
  · exact .inr (.inr ⟨by simpa using hok, rfl⟩)

/-- A part of the device that only a command's effect or reset can change: issuing an event, loading the
input buffer, answering the host and latching a fault leave it alone. -/
structure CommandField {α : Type} (p : State → α) : Prop where
  setInputs : ∀ s es, p (s.setInputs es) = p s
  setInput : ∀ s m, p (s.setInput m) = p s
  reply : ∀ s r, p (s.reply r) = p s
  raise : ∀ s f, p (s.raise f) = p s

/-- A step leaves such a part as it was, or is a reset, or issues a command whose effect gives the part
its new value. -/
theorem CommandField.step_cases {α : Type} {p : State → α} (hp : CommandField p) {s t : State}
    (h : step s = .next t) :
    p t = p s ∨ (∃ es, resets s ∧ t = (s.setInputs es).resetDevice) ∨
      ∃ i es, issues s i ∧ p t = p (effectOf i (s.setInputs es)) := by
  rcases Machine.step_cases h with ⟨_, rfl⟩ |
    ⟨es, ⟨hi, rfl⟩ | ⟨m, _, hm⟩ | ⟨w, hi, hw⟩ | ⟨_, rfl⟩ | ⟨c, _, rfl⟩⟩
  case inl => exact .inl rfl
  case inr.inl => exact .inr (.inl ⟨es, by simp [resets, hi], rfl⟩)
  case inr.inr.inl =>
    refine .inl ?_
    rcases hostLoad_cases hm with rfl | ⟨f, rfl⟩ | ⟨_, rfl⟩
    · exact hp.setInputs s es
    · rw [hp.raise, hp.setInputs]
    · rw [hp.setInput, hp.setInputs]
  case inr.inr.inr.inl =>
    rcases hostCmd_cases hw with ⟨_, rfl⟩ | ⟨_, _, rfl⟩ | ⟨_, i, hd, hx⟩
    · exact .inl (hp.setInputs s es)
    · exact .inl (by rw [hp.raise, hp.setInputs])
    · rcases exec_cases hx with ⟨_, rfl⟩ | ⟨_, f, _, rfl⟩ | ⟨_, _, rfl⟩
      · exact .inl (hp.setInputs s es)
      · exact .inl (by rw [hp.raise, hp.setInputs])
      · exact .inr (.inr ⟨i, es, ⟨w, by simp [hi], hd⟩, rfl⟩)
  case inr.inr.inr.inr.inl => exact .inl (by rw [hp.reply, hp.setInputs])
  case inr.inr.inr.inr.inr => exact .inl (by rw [hp.reply, hp.setInputs])

/-- A validity bit that a step sets is set by the effect of the command the step issues. -/
theorem CommandField.step_sets {p : State → Bool} (hp : CommandField p)
    (hreset : ∀ u : State, p u.resetDevice = false) {s t : State} (h : step s = .next t)
    (h0 : p s = false) (h1 : p t = true) :
    ∃ i u, issues s i ∧ p u = false ∧ p (effectOf i u) = true := by
  rcases hp.step_cases h with hk | ⟨es, _, rfl⟩ | ⟨i, es, hi, ht⟩
  · simp [hk, h0] at h1
  · simp [hreset] at h1
  · exact ⟨i, s.setInputs es, hi, (hp.setInputs s es).trans h0, ht ▸ h1⟩

/-- A validity bit that a step clears is cleared by reset or by the effect of the command the step
issues. -/
theorem CommandField.step_clears {p : State → Bool} (hp : CommandField p) {s t : State}
    (h : step s = .next t) (h1 : p s = true) (h0 : p t = false) :
    resets s ∨ ∃ i u, issues s i ∧ p u = true ∧ p (effectOf i u) = false := by
  rcases hp.step_cases h with hk | ⟨es, hr, rfl⟩ | ⟨i, es, hi, ht⟩
  · simp [hk, h1] at h0
  · exact .inl hr
  · exact .inr ⟨i, s.setInputs es, hi, (hp.setInputs s es).trans h1, ht ▸ h0⟩

/-- A bit that no command's effect clears is cleared by reset only. -/
theorem CommandField.step_clears_only_reset {p : State → Bool} (hp : CommandField p)
    (hkeep : ∀ i u, p u = true → p (effectOf i u) = true) {s t : State} (h : step s = .next t)
    (h1 : p s = true) (h0 : p t = false) : resets s := by
  rcases hp.step_clears h h1 h0 with hr | ⟨i, u, _, hu, hcl⟩
  · exact hr
  · simp [hkeep i u hu] at hcl

theorem commandField_keyv : CommandField State.keyv :=
  ⟨fun _ _ => rfl, fun _ _ => rfl, fun _ _ => rfl, fun _ _ => rfl⟩

theorem commandField_blkv : CommandField State.blkv :=
  ⟨fun _ _ => rfl, fun _ _ => rfl, fun _ _ => rfl, fun _ _ => rfl⟩

theorem commandField_rkv : CommandField State.rkv :=
  ⟨fun _ _ => rfl, fun _ _ => rfl, fun _ _ => rfl, fun _ _ => rfl⟩

theorem commandField_miv : CommandField State.miv :=
  ⟨fun _ _ => rfl, fun _ _ => rfl, fun _ _ => rfl, fun _ _ => rfl⟩

/-- Settles O21: each bit by what a command's effect leaves in it. -/
theorem validityBitsChangeOnlyAsListed : Obligations.ValidityBitsChangeOnlyAsListed := by
  intro s t h
  refine ⟨fun h0 h1 => ?_, commandField_keyv.step_clears_only_reset ?_ h, fun h0 h1 => ?_,
    commandField_blkv.step_clears_only_reset ?_ h, fun h0 h1 => ?_, fun h1 h0 => ?_,
    fun h0 h1 => ?_, commandField_miv.step_clears_only_reset ?_ h⟩
  · obtain ⟨i, u, hi, hu, hset⟩ := commandField_keyv.step_sets (fun _ => rfl) h h0 h1
    obtain rfl : i = .ldk := by simpa [effectOf_keyv, hu] using hset
    exact hi
  · intro i u hu
    simp [effectOf_keyv, hu]
  · obtain ⟨i, u, hi, hu, hset⟩ := commandField_blkv.step_sets (fun _ => rfl) h h0 h1
    obtain rfl : i = .ldb := by simpa [effectOf_blkv, hu] using hset
    exact hi
  · intro i u hu
    simp [effectOf_blkv, hu]
  · obtain ⟨i, u, hi, hu, hset⟩ := commandField_rkv.step_sets (fun _ => rfl) h h0 h1
    obtain rfl : i = .kexp := by simpa [effectOf_rkv, hu] using hset
    exact hi
  · rcases commandField_rkv.step_clears h h1 h0 with hr | ⟨i, u, hi, hu, hcl⟩
    · exact .inr hr
    · obtain ⟨-, rfl⟩ : i ≠ .kexp ∧ i = .ldk := by simpa [effectOf_rkv, hu] using hcl
      exact .inl hi
  · obtain ⟨i, u, hi, hu, hset⟩ := commandField_miv.step_sets (fun _ => rfl) h h0 h1
    obtain ⟨m, n, rfl⟩ := minit_of_effectOf_miv_ne (hset.trans_ne (by simp [hu]))
    exact ⟨m, n, hi⟩
  · exact fun i u hu => effectOf_keeps_miv hu

/-! ### The access matrix: which command's effect writes a register -/

theorem writer_of_blk {i : Instr} {s : State} (h : (effectOf i s).blk ≠ s.blk) :
    i ∈ [.ldb, .sub, .isub, .lin, .ilin, .encb, .decb] := by
  cases i <;> simp [effectOf] at h ⊢

theorem writer_of_mkey {i : Instr} {s : State} (h : (effectOf i s).mkey ≠ s.mkey) : i = .ldk := by
  rw [effectOf_mkey] at h
  exact (ite_ne_right_iff.mp h).1

theorem writer_of_rk {i : Instr} {s : State} (h : (effectOf i s).rk ≠ s.rk) : i = .kexp := by
  rw [effectOf_rk] at h
  exact (ite_ne_right_iff.mp h).1

/-- The registers that only `MINIT` writes, without the subkeys. -/
def instanceRegisters (s : State) : RoundKeys × Mode × Nat × Nat := (s.mrk, s.mode, s.seg, s.taglen)

theorem writer_of_instance {i : Instr} {s : State}
    (h : instanceRegisters (effectOf i s) ≠ instanceRegisters s) : ∃ m n, i = .minit m n := by
  cases i <;> simp [effectOf, instanceRegisters] at h ⊢

theorem deriveSubkeys_keeps {m : Mode} (hm : m ≠ .mac) (s : State) (ks : RoundKeys) :
    ((s.deriveSubkeys m ks).sk1, (s.deriveSubkeys m ks).sk2) = (s.sk1, s.sk2) := by
  rw [State.deriveSubkeys_of_ne s hm]

theorem writer_of_subkeys {i : Instr} {s : State}
    (h : ((effectOf i s).sk1, (effectOf i s).sk2) ≠ (s.sk1, s.sk2)) : ∃ n, i = .minit .mac n := by
  cases i with
  | minit m n =>
    by_cases hm : m = .mac
    · exact ⟨n, hm ▸ rfl⟩
    · exact absurd (deriveSubkeys_keeps hm _ _) h
  | _ => simp [effectOf] at h

/-- In Ecb and Mac mode no message changes the gamma (43_mode_common.md R187, R188). -/
theorem modeEncrypt_gamma_of_ecb_or_mac {s : State} (h : s.mode = .ecb ∨ s.mode = .mac) :
    (modeEncrypt s).2 = s.gamma := by
  rcases h with h | h <;> simp [modeEncrypt, h]

theorem modeDecrypt_gamma_of_ecb_or_mac {s : State} (h : s.mode = .ecb ∨ s.mode = .mac) :
    (modeDecrypt s).2 = s.gamma := by
  rcases h with h | h <;> simp [modeDecrypt, h]

theorem writer_of_gamma {i : Instr} {s : State} (h : (effectOf i s).gamma ≠ s.gamma) :
    (∃ m n, i = .minit m n) ∨ i = .mcfg ∨
      ((i = .menc ∨ i = .mdec) ∧ s.mode ≠ .ecb ∧ s.mode ≠ .mac) := by
  cases i with
  | minit m n => exact .inl ⟨m, n, rfl⟩
  | mcfg => exact .inr (.inl rfl)
  | menc =>
    refine .inr (.inr ⟨.inl rfl, ?_⟩)
    exact not_or.mp fun hm => h (modeEncrypt_gamma_of_ecb_or_mac hm)
  | mdec =>
    refine .inr (.inr ⟨.inr rfl, ?_⟩)
    exact not_or.mp fun hm => h (modeDecrypt_gamma_of_ecb_or_mac hm)
  | _ => simp [effectOf] at h

theorem writer_of_obuf {i : Instr} {s : State} (h : (effectOf i s).obuf ≠ s.obuf) :
    i = .stb ∨ (∃ k, i = .strk k) ∨ i = .stg ∨ (∃ j, i = .stsk j) ∨ i = .menc ∨ i = .mdec := by
  cases i <;> simp [effectOf] at h ⊢

/-- Settles O22: a register changes only as the command's effect changes it, and each effect writes
only its own. -/
theorem commandsWriteOnlyTheirRegisters : Obligations.CommandsWriteOnlyTheirRegisters := by
  intro i s t h
  have hinst (hne : instanceRegisters t ≠ instanceRegisters s) : ∃ m n, i = .minit m n :=
    writer_of_instance (effectOf_changes_of_exec (p := instanceRegisters) (fun _ _ => rfl) h hne)
  have hsub (hne : (t.sk1, t.sk2) ≠ (s.sk1, s.sk2)) : ∃ n, i = .minit .mac n :=
    writer_of_subkeys
      (effectOf_changes_of_exec (p := fun u => (u.sk1, u.sk2)) (fun _ _ => rfl) h hne)
  have hibuf : t.ibuf = s.ibuf := exec_keeps (fun _ _ => rfl) (effectOf_ibuf i) h
  refine ⟨fun hne => ?_, fun hne => ?_, fun hne => ?_, fun hne => hinst ?_, fun hne => hsub ?_,
    fun hne => ?_, fun hne => hinst ?_, fun hne => ?_, fun a => by rw [hibuf], ?_, ?_, ?_, ?_⟩
  · exact writer_of_blk (effectOf_changes_of_exec (fun _ _ => rfl) h hne)
  · exact writer_of_mkey (effectOf_changes_of_exec (fun _ _ => rfl) h hne)
  · exact writer_of_rk (effectOf_changes_of_exec (fun _ _ => rfl) h hne)
  · exact fun e => hne (congrArg Prod.fst e)
  · simpa [Prod.ext_iff, imp_iff_not_or] using hne
  · exact writer_of_gamma (effectOf_changes_of_exec (fun _ _ => rfl) h hne)
  · simp only [instanceRegisters, ne_eq, Prod.mk.injEq]; tauto
  · exact writer_of_obuf (effectOf_changes_of_exec (fun _ _ => rfl) h hne)
  · simp [State.ilen, hibuf]
  · exact exec_keeps (fun _ _ => rfl) (effectOf_build i) h
  · exact exec_keeps (fun _ _ => rfl) (effectOf_inputs i) h
  · exact exec_keeps (fun _ _ => rfl) (effectOf_replies i) h

/-! ### `STATUS` and `MODECFG` -/

theorem faultField_toNat (f : Option FaultCode) : (faultField f).toNat = faultNumber f := by
  match f with
  | none => rfl
  | some f => cases f <;> rfl

theorem faultNumber_le (f : Option FaultCode) : faultNumber f ≤ 7 := by
  match f with
  | none => decide
  | some f => cases f <;> decide

/-- Field `FAULT` of `STATUS`. -/
theorem statusWord_fault (s : State) : (statusWord s).extractLsb' 0 4 = faultField s.fault :=
  BitVec.extractLsb'_append_eq_right

/-- The four validity bits of `STATUS`. -/
theorem statusWord_validity (s : State) :
    (statusWord s).getLsbD 4 = s.keyv ∧ (statusWord s).getLsbD 5 = s.blkv ∧
      (statusWord s).getLsbD 6 = s.rkv ∧ (statusWord s).getLsbD 7 = s.miv := by
  simp only [statusWord, BitVec.getLsbD_append]
  simp

/-- The reserved bits of `STATUS`. -/
theorem statusWord_reserved (s : State) : (statusWord s).extractLsb' 8 24 = 0 := by
  unfold statusWord
  iterate 4 rw [BitVec.extractLsb'_append_eq_of_le (by decide)]
  exact BitVec.extractLsb'_append_eq_left

/-- The four validity bits and the latch determine `STATUS`. -/
theorem statusWord_congr {s t : State} (hm : s.miv = t.miv) (hr : s.rkv = t.rkv)
    (hb : s.blkv = t.blkv) (hk : s.keyv = t.keyv) (hf : s.fault = t.fault) :
    statusWord s = statusWord t := by
  simp only [statusWord, hm, hr, hb, hk, hf]

/-- The example of 10_state.md R34: `LDK`, `KEXP` and `MINIT` without a fault. -/
theorem statusWord_after_minit {s t u v : State} {m : Mode} {n : BitVec 16} (hb : s.blkv = false)
    (hst : exec .ldk s = .next t) (htu : exec .kexp t = .next u)
    (huv : exec (.minit m n) u = .next v) (hv : v.fault = none) : statusWord v = 0x000000D0 := by
  obtain ⟨hu, -, rfl⟩ := exec_completed huv hv
  obtain ⟨ht, -, rfl⟩ := exec_completed htu hu
  obtain ⟨hs, -, rfl⟩ := exec_completed hst ht
  simp [statusWord, effectOf_keyv, effectOf_blkv, effectOf_rkv, hb, hs, faultField]

/-- Settles O18: each field by its place in the word, the example by the three effects. -/
theorem statusRegisterLayout : Obligations.StatusRegisterLayout := by
  refine ⟨fun s => ?_, fun s t u v m n => statusWord_after_minit, rfl⟩
  obtain ⟨hkey, hblk, hrk, hmiv⟩ := statusWord_validity s
  have hnum : ((csrWord s .status).extractLsb' 0 4).toNat = faultNumber s.fault :=
    (congrArg BitVec.toNat (statusWord_fault s)).trans (faultField_toNat s.fault)
  exact ⟨statusWord_fault s, hnum, hkey, hblk, hrk, hmiv, statusWord_reserved s,
    hnum ▸ faultNumber_le s.fault⟩

theorem modeCode_eq_modeNumber (m : Mode) : m.code = modeNumber m := by cases m <;> rfl

theorem modeCode_le (m : Mode) : m.code ≤ 5 := by cases m <;> decide

/-- The fields of `MODECFG`, as bit vectors. -/
theorem modecfgWord_fields (s : State) :
    (modecfgWord s).extractLsb' 0 3 = BitVec.ofNat 3 s.mode.code ∧
      (modecfgWord s).extractLsb' 3 5 = 0 ∧
      (modecfgWord s).extractLsb' 8 5 = BitVec.ofNat 5 s.seg ∧
      (modecfgWord s).extractLsb' 13 3 = 0 ∧
      (modecfgWord s).extractLsb' 16 5 = BitVec.ofNat 5 s.taglen ∧
      (modecfgWord s).extractLsb' 21 11 = 0 := by
  unfold modecfgWord
  refine ⟨BitVec.extractLsb'_append_eq_right, ?_, ?_, ?_, ?_, ?_⟩
  · rw [BitVec.extractLsb'_append_eq_of_le (by decide)]
    exact BitVec.extractLsb'_append_eq_right
  · iterate 2 rw [BitVec.extractLsb'_append_eq_of_le (by decide)]
    exact BitVec.extractLsb'_append_eq_right
  · iterate 3 rw [BitVec.extractLsb'_append_eq_of_le (by decide)]
    exact BitVec.extractLsb'_append_eq_right
  · iterate 4 rw [BitVec.extractLsb'_append_eq_of_le (by decide)]
    exact BitVec.extractLsb'_append_eq_right
  · iterate 4 rw [BitVec.extractLsb'_append_eq_of_le (by decide)]
    exact BitVec.extractLsb'_append_eq_left

theorem segOperand_of_ne_cfb {m : Mode} (h : m ≠ .cfb) (n : BitVec 16) : segOperand m n = 16 := by
  cases m with
  | cfb => exact absurd rfl h
  | _ => rfl

theorem tagOperand_of_ne_mac {m : Mode} (h : m ≠ .mac) (n : BitVec 16) : tagOperand m n = 8 := by
  cases m with
  | mac => exact absurd rfl h
  | _ => rfl

/-- Settles O19: each field by its place in the word, the sizes by the effect of `MINIT`. -/
theorem modeConfigRegisterLayout : Obligations.ModeConfigRegisterLayout := by
  refine ⟨fun s ⟨hseg0, hseg, htag0, htag⟩ => ?_, rfl, fun s t m n _ h ht => ?_⟩
  · obtain ⟨hmode, hres3, hsegf, hres13, htagf, hres21⟩ := modecfgWord_fields s
    have hcode := modeCode_le s.mode
    refine ⟨?_, hcode, modeCode_eq_modeNumber s.mode, hres3, ?_, hres13, ?_, hres21⟩
    · rw [csrWord, hmode, BitVec.toNat_ofNat]; omega
    · rw [csrWord, hsegf, BitVec.toNat_ofNat]; omega
    · rw [csrWord, htagf, BitVec.toNat_ofNat]; omega
  · obtain ⟨-, -, rfl⟩ := exec_completed h ht
    refine ⟨fun hm => ?_, fun hm => ?_, ?_⟩
    · simp [effectOf, segOperand_of_ne_cfb hm]
    · simp [effectOf, tagOperand_of_ne_mac hm]
    · rintro rfl rfl
      simp [csrWord, modecfgWord, effectOf, segOperand, tagOperand, Config.tagDefault, Mode.code]

end Sys2Proof.Machine
end

section
/-!
PROOFS. The lengths of what the modes produce, and the invariant of the state: reset has it and every
step keeps it (10_state.md R24 to R30).
-/

namespace Sys2Proof.Machine

open Sys2Proof.Spec

/-! ### Lengths of padded and unpadded messages -/

theorem pad_length {s : Nat} (hs : 0 < s) (m : List Byte) :
    (pad m s).length = m.length + (s - m.length % s) := by
  have := Nat.mod_lt m.length hs
  simp only [pad, zeros, List.length_append, List.length_cons, List.length_replicate]
  omega

/-- A padded message is whole blocks. -/
theorem pad_length_mod {s : Nat} (hs : 0 < s) (m : List Byte) : (pad m s).length % s = 0 := by
  have hmod := Nat.mod_lt m.length hs
  have hdiv := Nat.div_add_mod m.length s
  rw [pad_length hs, show m.length + (s - m.length % s) = s * (m.length / s + 1) by
    rw [Nat.mul_add]; omega]
  exact Nat.mul_mod_right s _

theorem pad_length_le {s : Nat} (hs : 0 < s) (m : List Byte) :
    (pad m s).length ≤ m.length + s := by
  rw [pad_length hs]; omega

theorem cutAtMark_length_le {m l : List Byte} (h : l.length ≤ m.length) :
    (cutAtMark m l).length ≤ m.length := by
  cases l with
  | nil => exact le_rfl
  | cons b rest =>
    rw [List.length_cons] at h
    show (if b = Config.padMark then rest.reverse else m).length ≤ m.length
    split
    · rw [List.length_reverse]; omega
    · exact le_rfl

/-- Unpadding never lengthens a message. -/
theorem unpad_length_le (r : UnpadRule) (m : List Byte) : (unpad r m).length ≤ m.length := by
  cases r <;> exact cutAtMark_length_le
    ((List.length_dropWhile_le _ _).trans (List.length_reverse (as := m)).le)

/-- What Cfb encrypts is whole segments. -/
theorem cfbPlain_length_mod {n : Nat} (hn : 0 < n) (m : List Byte) :
    (cfbPlain n m).length % n = 0 := by
  unfold cfbPlain
  split
  case isTrue h => exact h
  case isFalse => exact pad_length_mod hn m

theorem cfbPlain_length_le {n : Nat} (hn : 0 < n) (m : List Byte) :
    (cfbPlain n m).length ≤ m.length + n := by
  unfold cfbPlain
  split
  · omega
  · exact pad_length_le hn m

/-! ### Lengths of the modes' outputs and gammas -/

/-- A block function applied to whole blocks keeps the length. -/
theorem map_onSlice_flatten_length (F : Block → Block) {m : List Byte} (hm : m.length % 16 = 0) :
    ((chunks 16 m).map (onSlice F)).flatten.length = m.length := by
  have hsum : ∀ {bs : List (List Byte)}, (∀ b ∈ bs, b.length = 16) →
      (bs.map (onSlice F)).flatten.length = bs.flatten.length := by
    intro bs h
    induction bs with
    | nil => rfl
    | cons b bs ih =>
      obtain ⟨hb, hbs⟩ := List.forall_mem_cons.mp h
      simp only [List.map_cons, List.flatten_cons, List.length_append, onSlice_length, hb, ih hbs]
  rw [hsum (chunks_mem_length (by decide) hm), chunks_flatten (by decide)]

/-- A loop whose steps give no more bytes than they take gives no more bytes than it takes. -/
theorem chain_output_length_le {f : List Byte → List Byte → List Byte × List Byte} :
    ∀ {bs : List (List Byte)} {g : List Byte},
      (∀ b ∈ bs, ∀ g, (f b g).1.length ≤ b.length) → (chain f bs g).1.length ≤ bs.flatten.length
  | [], _, _ => le_rfl
  | b :: bs, g, h => by
    obtain ⟨hb, hbs⟩ := List.forall_mem_cons.mp h
    have ih := chain_output_length_le (g := (f b g).2) hbs
    simp only [chain, List.flatten_cons, List.length_append]
    exact Nat.add_le_add (hb g) ih

/-- The same for a loop over the pieces of a message. -/
theorem chain_chunks_output_length_le {f : List Byte → List Byte → List Byte × List Byte} {n : Nat}
    (hn : 0 < n) {m g : List Byte} (h : ∀ b ∈ chunks n m, ∀ g, (f b g).1.length ≤ b.length) :
    (chain f (chunks n m) g).1.length ≤ m.length := by
  simpa only [chunks_flatten hn] using chain_output_length_le (g := g) h

theorem incRipple_length (l : List Byte) : (incRipple l).length = l.length := by
  induction l with
  | nil => rfl
  | cons b bs ih =>
    unfold incRipple
    split
    · simp [ih]
    · simp

@[simp] theorem ctrInc_length (g : List Byte) : (ctrInc g).length = g.length := by
  simp [ctrInc, incRipple_length]

theorem ctrApply_gamma_length (E : Block → Block) (m g : List Byte) :
    (ctrApply E m g).2.length = g.length :=
  chain_gamma_induct (P := fun h => h.length = g.length)
    (fun _ _ h hh => (ctrInc_length h).trans hh) rfl

/-- The next gamma of a shift register: `n` bytes leave, `n` come in. -/
theorem shift_length {g c : List Byte} {n : Nat} (hn : n ≤ g.length) (hc : c.length = n) :
    (g.drop n ++ c).length = g.length := by
  rw [List.length_append, List.length_drop, hc]; omega

theorem ofbApply_gamma_length (E : Block → Block) (m : List Byte) {g : List Byte}
    (hg : 16 ≤ g.length) : (ofbApply E m g).2.length = g.length :=
  chain_gamma_induct (P := fun h => h.length = g.length)
    (fun _ _ _ hh => (shift_length (hh ▸ hg) (onSlice_length E _)).trans hh) rfl

theorem cbcEnc_gamma_length (E : Block → Block) (m : List Byte) {g : List Byte}
    (hg : 16 ≤ g.length) : (cbcEnc E m g).2.length = g.length :=
  chain_gamma_induct (P := fun h => h.length = g.length)
    (fun _ _ _ hh => (shift_length (hh ▸ hg) (onSlice_length E _)).trans hh) rfl

theorem cbcDec_gamma_length (r : UnpadRule) (D : Block → Block) {c g : List Byte}
    (hc : c.length % 16 = 0) (hg : 16 ≤ g.length) : (cbcDec r D c g).2.length = g.length :=
  chain_gamma_induct (P := fun h => h.length = g.length)
    (fun b hb _ hh => (shift_length (hh ▸ hg) (chunks_mem_length (by decide) hc b hb)).trans hh) rfl

/-- A segment of ciphertext has the segment's length. -/
theorem cfbEncStep_output_length {E : Block → Block} {n : Nat} (hn : n ≤ 16) {b : List Byte}
    (hb : b.length = n) (g : List Byte) : (cfbEncStep E n b g).1.length = n := by
  simp [cfbEncStep, hb, hn]

theorem cfbEnc_gamma_length (E : Block → Block) {n : Nat} (hn : 1 ≤ n ∧ n ≤ 16) (m : List Byte)
    {g : List Byte} (hg : n ≤ g.length) : (cfbEnc E n m g).2.length = g.length :=
  chain_gamma_induct (P := fun h => h.length = g.length)
    (fun b hb h hh => (shift_length (hh ▸ hg) (cfbEncStep_output_length hn.2
      (chunks_mem_length hn.1 (cfbPlain_length_mod hn.1 m) b hb) h)).trans hh) rfl

theorem cfbDec_gamma_length (r : UnpadRule) (E : Block → Block) {n : Nat} (hn : 0 < n)
    {c g : List Byte} (hc : c.length % n = 0) (hg : n ≤ g.length) :
    (cfbDec r E n c g).2.length = g.length :=
  chain_gamma_induct (P := fun h => h.length = g.length)
    (fun b hb _ hh => (shift_length (hh ▸ hg) (chunks_mem_length hn hc b hb)).trans hh) rfl

theorem ecbEnc_output_length_le (E : Block → Block) (m : List Byte) :
    (ecbEnc E m).length ≤ m.length + 16 := by
  rw [ecbEnc, map_onSlice_flatten_length E (pad_length_mod (by decide) m)]
  exact pad_length_le (by decide) m

theorem ecbDec_output_length_le (r : UnpadRule) (D : Block → Block) {c : List Byte}
    (hc : c.length % 16 = 0) : (ecbDec r D c).length ≤ c.length :=
  (unpad_length_le r _).trans (map_onSlice_flatten_length D hc).le

theorem ctrApply_output_length_le (E : Block → Block) (m g : List Byte) :
    (ctrApply E m g).1.length ≤ m.length :=
  chain_chunks_output_length_le (by decide) fun b _ g => by simp [ctrStep]

theorem ofbApply_output_length_le (E : Block → Block) (m g : List Byte) :
    (ofbApply E m g).1.length ≤ m.length :=
  chain_chunks_output_length_le (by decide) fun b _ g => by simp [ofbStep]

theorem cbcEnc_output_length_le (E : Block → Block) (m g : List Byte) :
    (cbcEnc E m g).1.length ≤ m.length + 16 := by
  refine (chain_chunks_output_length_le (by decide) fun b hb g => ?_).trans
    (pad_length_le (by decide) m)
  simp [cbcEncStep, chunks_mem_length (by decide) (pad_length_mod (by decide) m) b hb]

theorem cbcDec_output_length_le (r : UnpadRule) (D : Block → Block) {c : List Byte}
    (hc : c.length % 16 = 0) (g : List Byte) : (cbcDec r D c g).1.length ≤ c.length := by
  refine (unpad_length_le r _).trans (chain_chunks_output_length_le (by decide) fun b hb g => ?_)
  simp [cbcDecStep, chunks_mem_length (by decide) hc b hb]

theorem cfbEnc_output_length_le (E : Block → Block) {n : Nat} (hn : 0 < n) (m g : List Byte) :
    (cfbEnc E n m g).1.length ≤ m.length + n :=
  (chain_chunks_output_length_le hn fun b _ g => by simp [cfbEncStep]).trans
    (cfbPlain_length_le hn m)

theorem cfbDec_output_length_le (r : UnpadRule) (E : Block → Block) {n : Nat} (hn : 0 < n)
    (c g : List Byte) : (cfbDec r E n c g).1.length ≤ c.length :=
  (unpad_length_le r _).trans
    (chain_chunks_output_length_le hn fun b _ g => by simp [cfbDecStep])

theorem macTag_length_le (E : Block → Block) (m : List Byte) (sk1 sk2 : Block) (t : Nat) :
    (macTag E m sk1 sk2 t).length ≤ 16 := by
  simp [macTag]

/-! ### What the checks of the mode commands ask -/

theorem firstFailure_cons_eq_none {c : Check} {cs : List Check} :
    firstFailure (c :: cs) = none ↔ c.holds = true ∧ firstFailure cs = none := by
  simp only [firstFailure_eq_none, List.forall_mem_cons]

theorem firstFailure_append_eq_none {cs ds : List Check} :
    firstFailure (cs ++ ds) = none ↔ firstFailure cs = none ∧ firstFailure ds = none := by
  simp only [firstFailure_eq_none, List.forall_mem_append]

/-- The gamma check passes exactly when the gamma is ready (43_mode_common.md R186). -/
theorem gammaChecks_pass {s : State} : firstFailure (gammaChecks s) = none ↔ gammaReady s := by
  cases hm : s.mode <;>
    simp [gammaChecks, gammaReady, hm, firstFailure_cons_eq_none, -firstFailure_cons] <;> omega

/-- The lengths `MDEC` accepts: whole blocks in Ecb and Cbc, whole segments in Cfb
(43_mode_common.md R188). -/
def wholePieces (s : State) : Prop :=
  (s.mode = .ecb → s.ilen % 16 = 0) ∧ (s.mode = .cbc → s.ilen % 16 = 0) ∧
    (s.mode = .cfb → s.ilen % s.seg = 0)

theorem decryptChecks_pass {s : State} : firstFailure (decryptChecks s) = none ↔ wholePieces s := by
  cases hm : s.mode <;> simp [decryptChecks, wholePieces, hm]

theorem mencChecks_pass {s : State} (h : firstFailure (checksOf .menc s) = none) :
    s.miv = true ∧ gammaReady s := by
  obtain ⟨hg, -⟩ := firstFailure_append_eq_none.mp h
  simpa [needInstance, gammaChecks_pass, firstFailure_cons_eq_none, -firstFailure_cons] using hg

theorem mdecChecks_pass {s : State} (h : firstFailure (checksOf .mdec s) = none) :
    s.miv = true ∧ s.mode ≠ .mac ∧ gammaReady s ∧ wholePieces s := by
  obtain ⟨hg, hd⟩ := firstFailure_append_eq_none.mp h
  obtain ⟨hi, hmac, hg⟩ : s.miv = true ∧ s.mode ≠ .mac ∧ gammaReady s := by
    simpa [needInstance, gammaChecks_pass, firstFailure_cons_eq_none, -firstFailure_cons] using hg
  exact ⟨hi, hmac, hg, decryptChecks_pass.mp hd⟩

theorem message_length (s : State) : s.message.length = s.ilen := by simp [State.ilen]

/-- Encryption keeps the length of the gamma. -/
theorem modeEncrypt_gamma_length {s : State} (hseg : 1 ≤ s.seg ∧ s.seg ≤ 16) (hg : gammaReady s) :
    (modeEncrypt s).2.length = s.glen := by
  obtain ⟨-, hofb, hcbc, hcfb⟩ := hg
  unfold modeEncrypt State.glen at *
  cases hm : s.mode with
  | ecb => rfl
  | mac => rfl
  | ctr => exact ctrApply_gamma_length _ _ _
  | ofb => exact ofbApply_gamma_length _ _ (by have := hofb hm; omega)
  | cbc => exact cbcEnc_gamma_length _ _ (hcbc hm)
  | cfb => exact cfbEnc_gamma_length _ hseg _ (hseg.2.trans (hcfb hm).1)

/-- Encryption lengthens a message by at most sixteen bytes. -/
theorem modeEncrypt_output_length_le {s : State} (hseg : 1 ≤ s.seg ∧ s.seg ≤ 16) :
    (modeEncrypt s).1.length ≤ s.ilen + 16 := by
  rw [← message_length]
  unfold modeEncrypt
  cases s.mode with
  | ecb => exact ecbEnc_output_length_le _ _
  | mac => exact (macTag_length_le _ _ _ _ _).trans (Nat.le_add_left _ _)
  | ctr => exact (ctrApply_output_length_le _ _ _).trans (Nat.le_add_right _ _)
  | ofb => exact (ofbApply_output_length_le _ _ _).trans (Nat.le_add_right _ _)
  | cbc => exact cbcEnc_output_length_le _ _ _
  | cfb => exact (cfbEnc_output_length_le _ hseg.1 _ _).trans (Nat.add_le_add_left hseg.2 _)

/-- Decryption keeps the length of the gamma. -/
theorem modeDecrypt_gamma_length {s : State} (hseg : 1 ≤ s.seg ∧ s.seg ≤ 16) (hg : gammaReady s)
    (hw : wholePieces s) : (modeDecrypt s).2.length = s.glen := by
  obtain ⟨-, hofb, hcbc, hcfb⟩ := hg
  obtain ⟨-, hcbcw, hcfbw⟩ := hw
  rw [← message_length] at hcbcw hcfbw
  unfold modeDecrypt State.glen at *
  cases hm : s.mode with
  | ecb => rfl
  | mac => rfl
  | ctr => exact ctrApply_gamma_length _ _ _
  | ofb => exact ofbApply_gamma_length _ _ (by have := hofb hm; omega)
  | cbc => exact cbcDec_gamma_length _ _ (hcbcw hm) (hcbc hm)
  | cfb => exact cfbDec_gamma_length _ _ hseg.1 (hcfbw hm) (hseg.2.trans (hcfb hm).1)

/-- Decryption never lengthens a message. -/
theorem modeDecrypt_output_length_le {s : State} (hseg : 1 ≤ s.seg) (hw : wholePieces s) :
    (modeDecrypt s).1.length ≤ s.ilen := by
  obtain ⟨hecbw, hcbcw, -⟩ := hw
  rw [← message_length] at *
  unfold modeDecrypt
  cases hm : s.mode with
  | ecb => exact ecbDec_output_length_le _ _ (hecbw hm)
  | mac => exact Nat.zero_le _
  | ctr => exact ctrApply_output_length_le _ _ _
  | ofb => exact ofbApply_output_length_le _ _ _
  | cbc => exact cbcDec_output_length_le _ _ (hcbcw hm) _
  | cfb => exact cfbDec_output_length_le _ _ hseg _ _

/-! ### Each update of the state keeps the invariant -/

theorem State.Inv.setInputs {s : State} (h : s.Inv) (es : List Event) : (s.setInputs es).Inv :=
  { h with }

theorem State.Inv.reply {s : State} (h : s.Inv) (r : Reply) : (s.reply r).Inv := { h with }

theorem State.Inv.raise {s : State} (h : s.Inv) (f : FaultCode) : (s.raise f).Inv := { h with }

theorem State.Inv.setBlk {s : State} (h : s.Inv) (b : Block) : (s.setBlk b).Inv := { h with }

theorem State.Inv.loadBlk {s : State} (h : s.Inv) (b : Block) : (s.loadBlk b).Inv := { h with }

theorem State.Inv.setInput {s : State} (h : s.Inv) {m : List Byte}
    (hm : m.length ≤ s.build.mmax) : (s.setInput m).Inv :=
  { h with
    ibuf_wf := Memory.ofBytes_wf m
    ilen_le := (Memory.ofBytes_length m).trans_le hm }

theorem State.Inv.output {s : State} (h : s.Inv) {m : List Byte} (hm : m.length ≤ s.build.omax) :
    (s.output m).Inv :=
  { h with
    obuf_wf := Memory.ofBytes_wf m
    olen_le := (Memory.ofBytes_length m).trans_le hm }

/-- One block fits the output buffer of every build. -/
theorem State.Inv.output_block {s : State} (h : s.Inv) (b : Block) : (s.output b.toList).Inv :=
  h.output (b.length_toList.trans_le (Nat.le_add_left _ _))

/-- The gamma fits the output buffer of every build. -/
theorem State.Inv.output_gamma {s : State} (h : s.Inv) : (s.output s.gamma).Inv := by
  obtain ⟨-, hgm, -⟩ := h.build_valid
  exact h.output ((h.glen_le.trans hgm).trans (Nat.le_add_right _ _))

/-- A new master key makes the round keys invalid, so nothing is asked of them. -/
theorem State.Inv.loadKey {s : State} (h : s.Inv) (k : Key) : (s.loadKey k).Inv :=
  { h with
    rk_derived := fun hr => absurd hr Bool.false_ne_true
    mrk_derived := fun hm => ⟨rfl, (h.mrk_derived hm).2⟩ }

theorem State.Inv.expandKey {s : State} (h : s.Inv) (hk : s.keyv = true) :
    (s.setRoundKeys (keyExpand s.mkey)).Inv :=
  { h with rk_derived := fun _ => ⟨hk, rfl⟩ }

theorem State.Inv.setGamma {s : State} (h : s.Inv) {g : List Byte} (hi : s.miv = true)
    (hg : g.length ≤ s.build.gmax) : (s.setGamma g).Inv :=
  { h with
    glen_le := hg
    no_instance := fun hn => absurd (hi.symm.trans hn) (by decide) }

/-- A mode command stores its next gamma and its output. -/
theorem State.Inv.modeEffect {s : State} (h : s.Inv) {p : List Byte × List Byte}
    (hi : s.miv = true) (hout : p.1.length ≤ s.ilen + 16) (hg : p.2.length = s.glen) :
    ((s.setGamma p.2).output p.1).Inv :=
  (h.setGamma hi (hg.trans_le h.glen_le)).output
    (hout.trans (Nat.add_le_add_right h.ilen_le 16))

/-! ### `MINIT` -/

/-- A size of 0 stands for a default (30_encoding.md R94): what is taken is never 0. -/
theorem sizeOrDefault_range {n : BitVec 16} {d : Nat} (hd : 1 ≤ d ∧ d ≤ 16) (hn : n.toNat ≤ 16) :
    1 ≤ (if n = 0 then d else n.toNat) ∧ (if n = 0 then d else n.toNat) ≤ 16 := by
  split
  case isTrue => exact hd
  case isFalse h0 =>
    have : n.toNat ≠ 0 := fun e => h0 (BitVec.eq_of_toNat_eq e)
    omega

theorem segOperand_range {m : Mode} {n : BitVec 16} (h : (Instr.minit m n).wf = true) :
    1 ≤ segOperand m n ∧ segOperand m n ≤ 16 := by
  by_cases hm : m = .cfb
  · subst hm
    exact sizeOrDefault_range (by decide) (of_decide_eq_true h)
  · simp [segOperand_of_ne_cfb hm]

theorem tagOperand_range {m : Mode} {n : BitVec 16} (h : (Instr.minit m n).wf = true) :
    1 ≤ tagOperand m n ∧ tagOperand m n ≤ 16 := by
  by_cases hm : m = .mac
  · subst hm
    exact sizeOrDefault_range (by decide) (of_decide_eq_true h)
  · simp [tagOperand_of_ne_mac hm]

/-- `MINIT` with legal operands and valid round keys keeps the invariant: the round keys it stores are
those of the present master key, and the subkeys, in Mac mode, come from them. -/
theorem State.Inv.minit {s : State} (h : s.Inv) {m : Mode} {n : BitVec 16}
    (hwf : (Instr.minit m n).wf = true) (hr : s.rkv = true) : (effectOf (.minit m n) s).Inv := by
  obtain ⟨hkey, hrk⟩ := h.rk_derived hr
  exact
    { build_valid := by simpa using h.build_valid
      ibuf_wf := by simpa using h.ibuf_wf
      obuf_wf := by simpa [effectOf] using h.obuf_wf
      ilen_le := by simpa [State.ilen] using h.ilen_le
      olen_le := by simpa [effectOf, State.olen] using h.olen_le
      glen_le := by simp [effectOf, State.glen]
      seg_range := by simpa [effectOf] using segOperand_range hwf
      taglen_range := by simpa [effectOf] using tagOperand_range hwf
      seg_default := by simpa [effectOf] using fun hm => segOperand_of_ne_cfb hm n
      taglen_default := by simpa [effectOf] using fun hm => tagOperand_of_ne_mac hm n
      rk_derived := by simpa [effectOf] using h.rk_derived
      mrk_derived := by simpa [effectOf, hkey] using ⟨s.mkey, hrk⟩
      subkeys_derived := fun _ hm => by
        obtain rfl : m = .mac := by simpa [effectOf] using hm
        rfl
      no_instance := by simp }

/-! ### Every step keeps the invariant -/

/-- A command whose checks pass keeps the invariant. -/
theorem State.Inv.effectOf {s : State} (h : s.Inv) {i : Instr}
    (hok : firstFailure (checksOf i s) = none) : (effectOf i s).Inv := by
  cases i with
  | nop => exact h
  | ldk => exact h.loadKey _
  | ldb => exact h.loadBlk _
  | stb => exact h.output_block _
  | strk k => exact h.output_block _
  | stg => exact h.output_gamma
  | stsk j => exact h.output_block _
  | sub => exact h.setBlk _
  | isub => exact h.setBlk _
  | lin => exact h.setBlk _
  | ilin => exact h.setBlk _
  | encb => exact h.setBlk _
  | decb => exact h.setBlk _
  | kexp => exact h.expandKey (by simpa [checksOf, needKey] using hok)
  | minit m n =>
    obtain ⟨hwf, hr⟩ : (Instr.minit m n).wf = true ∧ s.rkv = true := by
      simpa [checksOf, needOperands, needRoundKeys, firstFailure_cons_eq_none, -firstFailure_cons]
        using hok
    exact h.minit hwf hr
  | mcfg =>
    obtain ⟨hi, hcap⟩ : s.miv = true ∧ s.ilen ≤ s.build.gmax := by
      simpa [checksOf, needInstance, firstFailure_cons_eq_none, -firstFailure_cons] using hok
    exact h.setGamma hi ((message_length s).trans_le hcap)
  | menc =>
    obtain ⟨hi, hg⟩ := mencChecks_pass hok
    exact h.modeEffect hi (modeEncrypt_output_length_le h.seg_range)
      (modeEncrypt_gamma_length h.seg_range hg)
  | mdec =>
    obtain ⟨hi, -, hg, hw⟩ := mdecChecks_pass hok
    exact h.modeEffect hi
      ((modeDecrypt_output_length_le h.seg_range.1 hw).trans (Nat.le_add_right _ _))
      (modeDecrypt_gamma_length h.seg_range hg hw)

theorem State.Inv.exec {s t : State} (h : s.Inv) {i : Instr} (hx : exec i s = .next t) : t.Inv := by
  rcases exec_cases hx with ⟨_, rfl⟩ | ⟨_, f, _, rfl⟩ | ⟨_, hok, rfl⟩
  · exact h
  · exact h.raise f
  · exact h.effectOf hok

theorem State.Inv.hostLoad {s t : State} (h : s.Inv) {m : List Byte}
    (hl : hostLoad m s = .next t) : t.Inv := by
  rcases hostLoad_cases hl with rfl | ⟨f, rfl⟩ | ⟨hm, rfl⟩
  · exact h
  · exact h.raise f
  · exact h.setInput hm

theorem State.Inv.hostCmd {s t : State} (h : s.Inv) {w : Word} (hc : hostCmd w s = .next t) :
    t.Inv := by
  rcases hostCmd_cases hc with ⟨_, rfl⟩ | ⟨_, _, rfl⟩ | ⟨_, i, _, hx⟩
  · exact h
  · exact h.raise _
  · exact h.exec hx

/-- Reset gives the invariant to every valid build. -/
theorem resetOf_inv {b : Build} (hb : b.Valid) : (State.resetOf b).Inv where
  build_valid := hb
  ibuf_wf := rfl
  obuf_wf := rfl
  ilen_le := Nat.zero_le _
  olen_le := Nat.zero_le _
  glen_le := Nat.zero_le _
  seg_range := show 1 ≤ 16 ∧ 16 ≤ 16 by decide
  taglen_range := show 1 ≤ 8 ∧ 8 ≤ 16 by decide
  seg_default := fun _ => rfl
  taglen_default := fun _ => rfl
  rk_derived := fun h => absurd h Bool.false_ne_true
  mrk_derived := fun h => absurd h Bool.false_ne_true
  subkeys_derived := fun h => absurd h Bool.false_ne_true
  no_instance := fun _ => ⟨rfl, rfl⟩

theorem resetDevice_inv {s : State} (hb : s.build.Valid) : s.resetDevice.Inv :=
  { resetOf_inv hb with }

/-- Settles O23: each event by the update it makes. -/
theorem stepKeepsTheInvariant : Obligations.StepKeepsTheInvariant := by
  intro s t h hstep
  rcases step_cases hstep with ⟨_, rfl⟩ |
    ⟨es, ⟨_, rfl⟩ | ⟨m, _, hm⟩ | ⟨w, _, hw⟩ | ⟨_, rfl⟩ | ⟨c, _, rfl⟩⟩
  · exact h
  · exact resetDevice_inv h.build_valid
  · exact (h.setInputs es).hostLoad hm
  · exact (h.setInputs es).hostCmd hw
  · exact (h.setInputs es).reply _
  · exact (h.setInputs es).reply _

/-- Settles O24: the invariant of `State.resetOf`, and the default build. -/
theorem resetHasTheInvariant : Obligations.ResetHasTheInvariant :=
  ⟨resetOf_inv (by decide), fun _ => resetOf_inv, rfl, rfl, rfl, rfl⟩

end Sys2Proof.Machine
end

section
/-!
PROOFS. Two-run statements: what a mode command computes does not depend on the cipher context
(10_state.md R25), and the contents of an invalid register are never observed (R42).
-/

namespace Sys2Proof.Machine

open Sys2Proof.Spec

/-! ### What a mode command reads -/

/-- Two states agree on all that `MENC` and `MDEC` read: what `MINIT` and `MCFG` wrote, as far as it is
valid, the input message and the build. -/
structure State.SameInstance (s t : State) : Prop where
  miv : s.miv = t.miv
  mode : s.mode = t.mode
  seg : s.seg = t.seg
  taglen : s.taglen = t.taglen
  gamma : s.gamma = t.gamma
  ibuf : s.ibuf = t.ibuf
  build : s.build = t.build
  mrk : s.miv = true → s.mrk = t.mrk
  subkeys : s.miv = true → s.mode = .mac → s.sk1 = t.sk1 ∧ s.sk2 = t.sk2

theorem State.SameInstance.ilen {s t : State} (h : s.SameInstance t) : s.ilen = t.ilen :=
  congrArg List.length h.ibuf

theorem State.SameInstance.glen {s t : State} (h : s.SameInstance t) : s.glen = t.glen :=
  congrArg List.length h.gamma

theorem State.SameInstance.gammaChecks {s t : State} (h : s.SameInstance t) :
    gammaChecks s = gammaChecks t := by
  unfold Machine.gammaChecks
  rw [h.mode, h.glen, h.seg]

theorem State.SameInstance.checksOf_menc {s t : State} (h : s.SameInstance t) :
    checksOf .menc s = checksOf .menc t := by
  unfold checksOf needInstance encryptChecks
  rw [h.gammaChecks, h.miv, h.mode, h.ilen]

theorem State.SameInstance.checksOf_mdec {s t : State} (h : s.SameInstance t) :
    checksOf .mdec s = checksOf .mdec t := by
  unfold checksOf needInstance decryptChecks
  rw [h.gammaChecks, h.miv, h.mode, h.seg, h.ilen]

theorem State.SameInstance.modeEncrypt {s t : State} (h : s.SameInstance t) (hi : s.miv = true) :
    modeEncrypt s = modeEncrypt t := by
  cases hm : s.mode with
  | mac =>
    obtain ⟨hsk1, hsk2⟩ := h.subkeys hi hm
    simp only [Machine.modeEncrypt, State.message, ← h.mode, hm, h.mrk hi, h.gamma, h.ibuf, h.taglen,
      hsk1, hsk2]
  | _ => simp only [Machine.modeEncrypt, State.message, ← h.mode, hm, h.mrk hi, h.gamma, h.ibuf, h.seg]

theorem State.SameInstance.modeDecrypt {s t : State} (h : s.SameInstance t) (hi : s.miv = true) :
    modeDecrypt s = modeDecrypt t := by
  simp only [Machine.modeDecrypt, State.message, h.mode, h.mrk hi, h.gamma, h.ibuf, h.seg, h.build]

/-! ### `LDK` and `KEXP` between mode commands -/

theorem sameInstance_effectOf_key {i : Instr} (hi : i = .ldk ∨ i = .kexp) (s : State) :
    s.SameInstance (effectOf i s) := by
  rcases hi with rfl | rfl <;>
    exact ⟨rfl, rfl, rfl, rfl, rfl, rfl, rfl, fun _ => rfl, fun _ _ => ⟨rfl, rfl⟩⟩

theorem effectOf_key_obuf {i : Instr} (hi : i = .ldk ∨ i = .kexp) (s : State) :
    (effectOf i s).obuf = s.obuf := by
  rcases hi with rfl | rfl <;> rfl

/-- A mode command has the same result, a fault or an output and a gamma, in states that agree on what it
reads. -/
theorem State.SameInstance.exec_modeCommand {s t u : State} (h : s.SameInstance t) {j : Instr}
    (hj : j = .menc ∨ j = .mdec) (hs : s.fault = none) (ht : t.fault = none)
    (hobuf : t.obuf = s.obuf) (hu : exec j s = .next u) :
    ∃ v, exec j t = .next v ∧ v.obuf = u.obuf ∧ v.gamma = u.gamma ∧ v.fault = u.fault := by
  have hchecks : checksOf j s = checksOf j t := by
    rcases hj with rfl | rfl
    · exact h.checksOf_menc
    · exact h.checksOf_mdec
  rcases exec_cases hu with ⟨hf, _⟩ | ⟨_, f, hf, rfl⟩ | ⟨_, hok, rfl⟩
  · exact absurd hs hf
  · exact ⟨_, exec_raises ht (hchecks ▸ hf), hobuf, h.gamma.symm, rfl⟩
  · have heffect : (effectOf j t).obuf = (effectOf j s).obuf ∧
        (effectOf j t).gamma = (effectOf j s).gamma := by
      rcases hj with rfl | rfl
      · simp [effectOf, h.modeEncrypt (mencChecks_pass hok).1]
      · simp [effectOf, h.modeDecrypt (mdecChecks_pass hok).1]
    obtain ⟨hout, hgamma⟩ := heffect
    exact ⟨_, exec_performs ht (hchecks ▸ hok), hout, hgamma, by simp [hs, ht]⟩

/-- Settles O54: `LDK` and `KEXP` leave all that a mode command reads as it was. -/
theorem keyChangeLeavesTheInstanceAlone : Obligations.KeyChangeLeavesTheInstanceAlone := by
  intro s t u i j hi hj hst ht hsu
  obtain ⟨hs, -, rfl⟩ := exec_completed hst ht
  exact (sameInstance_effectOf_key hi s).exec_modeCommand hj hs ht (effectOf_key_obuf hi s) hsu

/-! ### Equal updates of states that look the same -/

theorem State.SameView.sameInstance {s t : State} (h : s.SameView t) : s.SameInstance t :=
  { h with }

theorem State.SameView.message {s t : State} (h : s.SameView t) : s.message = t.message :=
  congrArg Memory.bytes h.ibuf

theorem State.SameView.csrWord {s t : State} (h : s.SameView t) (c : Csr) :
    csrWord s c = csrWord t c := by
  cases c with
  | status => exact statusWord_congr h.miv h.rkv h.blkv h.keyv h.fault
  | _ => simp only [Machine.csrWord, modecfgWord, State.ilen, State.olen, State.glen, h.taglen, h.seg,
      h.mode, h.ibuf, h.obuf, h.gamma, h.build]

theorem State.SameView.setInputs {s t : State} (h : s.SameView t) (es : List Event) :
    (s.setInputs es).SameView (t.setInputs es) := { h with inputs := rfl }

theorem State.SameView.setInput {s t : State} (h : s.SameView t) (m : List Byte) :
    (s.setInput m).SameView (t.setInput m) := { h with ibuf := rfl }

theorem State.SameView.reply {s t : State} (h : s.SameView t) {r r' : Reply} (hr : r = r') :
    (s.reply r).SameView (t.reply r') :=
  { h with replies := congrArg₂ (fun l x => l ++ [x]) h.replies hr }

theorem State.SameView.raise {s t : State} (h : s.SameView t) (f : FaultCode) :
    (s.raise f).SameView (t.raise f) := { h with fault := rfl }

theorem State.SameView.output {s t : State} (h : s.SameView t) {m m' : List Byte} (hm : m = m') :
    (s.output m).SameView (t.output m') := { h with obuf := congrArg Memory.ofBytes hm }

theorem State.SameView.setBlk {s t : State} (h : s.SameView t) {b b' : Block} (hb : b = b') :
    (s.setBlk b).SameView (t.setBlk b') := { h with blk := fun _ => hb }

theorem State.SameView.loadBlk {s t : State} (h : s.SameView t) {b b' : Block} (hb : b = b') :
    (s.loadBlk b).SameView (t.loadBlk b') := { h with blkv := rfl, blk := fun _ => hb }

/-- The round keys are invalid after a new master key, so nothing is asked of them. -/
theorem State.SameView.loadKey {s t : State} (h : s.SameView t) {k k' : Key} (hk : k = k') :
    (s.loadKey k).SameView (t.loadKey k') :=
  { h with
    keyv := rfl
    rkv := rfl
    mkey := fun _ => hk
    rk := fun hr => absurd hr Bool.false_ne_true }

theorem State.SameView.setRoundKeys {s t : State} (h : s.SameView t) {ks ks' : RoundKeys}
    (hk : ks = ks') : (s.setRoundKeys ks).SameView (t.setRoundKeys ks') :=
  { h with rkv := rfl, rk := fun _ => hk }

theorem State.SameView.setGamma {s t : State} (h : s.SameView t) {g g' : List Byte} (hg : g = g') :
    (s.setGamma g).SameView (t.setGamma g') := { h with gamma := hg }

/-- A mode command stores its next gamma and its output. -/
theorem State.SameView.modeEffect {s t : State} (h : s.SameView t) {p p' : List Byte × List Byte}
    (hp : p = p') : ((s.setGamma p.2).output p.1).SameView ((t.setGamma p'.2).output p'.1) :=
  (h.setGamma (congrArg Prod.snd hp)).output (congrArg Prod.fst hp)

/-- `MINIT` stores the round keys, which are valid here; the subkeys count only in Mac mode, where they
are derived from them. -/
theorem State.SameView.minit {s t : State} (h : s.SameView t) (hr : s.rkv = true) (m : Mode)
    (n : BitVec 16) : (effectOf (.minit m n) s).SameView (effectOf (.minit m n) t) := by
  have hrk := h.rk hr
  have hnew (hm : m = .mac) :
      (effectOf (.minit m n) s).sk1 = (effectOf (.minit m n) t).sk1 ∧
        (effectOf (.minit m n) s).sk2 = (effectOf (.minit m n) t).sk2 := by
    subst hm
    simp [effectOf, hrk]
  exact
    { blkv := by simpa [effectOf] using h.blkv
      keyv := by simpa [effectOf] using h.keyv
      rkv := by simpa [effectOf] using h.rkv
      miv := by simp
      gamma := by simp [effectOf]
      mode := by simp [effectOf]
      seg := by simp [effectOf]
      taglen := by simp [effectOf]
      ibuf := by simpa using h.ibuf
      obuf := by simpa [effectOf] using h.obuf
      fault := by simpa using h.fault
      build := by simpa using h.build
      inputs := by simpa using h.inputs
      replies := by simpa using h.replies
      blk := by simpa [effectOf] using h.blk
      mkey := by simpa [effectOf] using h.mkey
      rk := by simpa [effectOf] using h.rk
      mrk := by simpa [effectOf] using hrk
      subkeys := fun _ hm => hnew (by simpa [effectOf] using hm) }

theorem State.SameView.resetDevice {s t : State} (h : s.SameView t) :
    s.resetDevice.SameView t.resetDevice where
  blkv := rfl
  keyv := rfl
  rkv := rfl
  miv := rfl
  gamma := rfl
  mode := rfl
  seg := rfl
  taglen := rfl
  ibuf := rfl
  obuf := rfl
  fault := rfl
  build := h.build
  inputs := h.inputs
  replies := h.replies
  blk := fun hb => absurd hb Bool.false_ne_true
  mkey := fun hk => absurd hk Bool.false_ne_true
  rk := fun hr => absurd hr Bool.false_ne_true
  mrk := fun hi => absurd hi Bool.false_ne_true
  subkeys := fun hi => absurd hi Bool.false_ne_true

/-! ### Steps of states that look the same -/

theorem State.SameView.needLength {s t : State} (h : s.SameView t) (n : Nat) :
    needLength s n = needLength t n := by
  unfold Machine.needLength
  rw [h.sameInstance.ilen]

/-- The checks read nothing that a validity bit guards. -/
theorem State.SameView.checksOf {s t : State} (h : s.SameView t) (i : Instr) :
    checksOf i s = checksOf i t := by
  cases i with
  | menc => exact h.sameInstance.checksOf_menc
  | mdec => exact h.sameInstance.checksOf_mdec
  | ldk => exact congrArg (fun c => [c]) (h.needLength 32)
  | ldb => exact congrArg (fun c => [c]) (h.needLength 16)
  | mcfg =>
    unfold Machine.checksOf needInstance
    rw [h.miv, h.sameInstance.ilen, h.build]
  | _ => simp only [Machine.checksOf, needBlk, needKey, needRoundKeys, needInstance, h.blkv, h.keyv,
      h.rkv, h.miv, h.mode]

/-- What an effect reads is valid: its check has passed. -/
theorem State.SameView.effectOf {s t : State} (h : s.SameView t) {i : Instr}
    (hok : firstFailure (Machine.checksOf i s) = none) :
    (effectOf i s).SameView (effectOf i t) := by
  have passes : ∀ c ∈ Machine.checksOf i s, c.holds = true := firstFailure_eq_none.mp hok
  cases i with
  | nop => exact h
  | ldk => exact h.loadKey (congrArg _ h.message)
  | ldb => exact h.loadBlk (congrArg _ h.message)
  | stb => exact h.output (congrArg _ (h.blk (passes (needBlk s) (by simp [Machine.checksOf]))))
  | strk k =>
    have hrk := h.rk (passes (needRoundKeys s) (by simp [Machine.checksOf]))
    exact h.output (by rw [hrk])
  | stg => exact h.output h.gamma
  | stsk j =>
    have hi : s.miv = true := passes (needInstance s) (by simp [Machine.checksOf])
    have hmac : s.mode = .mac :=
      of_decide_eq_true (passes ⟨decide (s.mode = .mac), .unsupportedOperation⟩
        (by simp [Machine.checksOf]))
    obtain ⟨hsk1, hsk2⟩ := h.subkeys hi hmac
    exact h.output (by simp only [subkey, hsk1, hsk2])
  | sub => exact h.setBlk (congrArg sFwd (h.blk (passes (needBlk s) (by simp [Machine.checksOf]))))
  | isub => exact h.setBlk (congrArg sInv (h.blk (passes (needBlk s) (by simp [Machine.checksOf]))))
  | lin => exact h.setBlk (congrArg lFwd (h.blk (passes (needBlk s) (by simp [Machine.checksOf]))))
  | ilin => exact h.setBlk (congrArg lInv (h.blk (passes (needBlk s) (by simp [Machine.checksOf]))))
  | kexp =>
    exact h.setRoundKeys (congrArg keyExpand (h.mkey (passes (needKey s) (by simp [Machine.checksOf]))))
  | encb =>
    have hrk := h.rk (passes (needRoundKeys s) (by simp [Machine.checksOf]))
    have hblk := h.blk (passes (needBlk s) (by simp [Machine.checksOf]))
    exact h.setBlk (congrArg₂ encBlock hrk hblk)
  | decb =>
    have hrk := h.rk (passes (needRoundKeys s) (by simp [Machine.checksOf]))
    have hblk := h.blk (passes (needBlk s) (by simp [Machine.checksOf]))
    exact h.setBlk (congrArg₂ decBlock hrk hblk)
  | minit m n => exact h.minit (passes (needRoundKeys s) (by simp [Machine.checksOf])) m n
  | mcfg => exact h.setGamma h.message
  | menc => exact h.modeEffect (h.sameInstance.modeEncrypt (mencChecks_pass hok).1)
  | mdec => exact h.modeEffect (h.sameInstance.modeDecrypt (mdecChecks_pass hok).1)

/-- Equal checks, and effects that look the same, give states that look the same. -/
theorem State.SameView.command {s t s' t' e e' : State} {cs : List Check} (h : s.SameView t)
    (he : firstFailure cs = none → e.SameView e') (hs : command s cs e = .next s')
    (ht : command t cs e' = .next t') : s'.SameView t' := by
  rcases command_cases hs with ⟨hf, rfl⟩ | ⟨hf, f, hc, rfl⟩ | ⟨hf, hok, rfl⟩ <;> rw [h.fault] at hf
  · rw [command_faulted hf] at ht
    cases ht
    exact h
  · rw [command_raises hf hc] at ht
    cases ht
    exact h.raise f
  · rw [command_performs hf hok] at ht
    cases ht
    exact he hok

theorem State.SameView.exec {s t s' t' : State} (h : s.SameView t) {i : Instr}
    (hs : exec i s = .next s') (ht : exec i t = .next t') : s'.SameView t' := by
  rw [exec_eq_command] at hs ht
  rw [← h.checksOf i] at ht
  exact h.command h.effectOf hs ht

theorem State.SameView.hostLoad {s t s' t' : State} (h : s.SameView t) {m : List Byte}
    (hs : hostLoad m s = .next s') (ht : hostLoad m t = .next t') : s'.SameView t' := by
  unfold Machine.hostLoad at hs ht
  rw [← h.build] at ht
  exact h.command (fun _ => h.setInput m) hs ht

theorem State.SameView.hostCmd {s t s' t' : State} (h : s.SameView t) {w : Word}
    (hs : hostCmd w s = .next s') (ht : hostCmd w t = .next t') : s'.SameView t' := by
  by_cases hf : s.fault = none
  · rw [hostCmd_idle hf] at hs
    rw [hostCmd_idle (h.fault ▸ hf)] at ht
    cases hd : decode w with
    | error e =>
      rw [hd] at hs ht
      cases hs
      cases ht
      exact h.raise _
    | ok i =>
      rw [hd] at hs ht
      exact h.exec hs ht
  · rw [hostCmd_faulted hf] at hs
    rw [hostCmd_faulted (h.fault ▸ hf)] at ht
    cases hs
    cases ht
    exact h

/-- The same event keeps two states looking the same; what it returns to the host is read from what
they share. -/
theorem State.SameView.perform {s t s' t' : State} (h : s.SameView t) {e : Event}
    (hs : perform e s = .next s') (ht : perform e t = .next t') : s'.SameView t' := by
  match e, hs, ht with
  | .reset, rfl, rfl => exact h.resetDevice
  | .host (.load m), hs, ht => exact h.hostLoad hs ht
  | .host (.cmd w), hs, ht => exact h.hostCmd hs ht
  | .host .store, rfl, rfl => exact h.reply (congrArg (fun m => Reply.bytes (Memory.bytes m)) h.obuf)
  | .host (.csrRead c), rfl, rfl => exact h.reply (congrArg Reply.word (h.csrWord c))

/-- Settles O25: both states take the same event, or have none to take. -/
theorem guardedContentsAreUnobservable : Obligations.GuardedContentsAreUnobservable := by
  intro s t s' t' h hs ht
  cases hi : s.inputs with
  | nil =>
    rw [step_nil hi] at hs
    rw [step_nil (h.inputs ▸ hi)] at ht
    cases hs
    cases ht
    exact h
  | cons e es =>
    rw [step_cons hi] at hs
    rw [step_cons (h.inputs ▸ hi)] at ht
    exact (h.setInputs es).perform hs ht

end Sys2Proof.Machine
end

section
/-!
PROOFS. What each of the four host operations does in one step: `HostLoad` and the input buffer,
`HostCmd` and the decoded command, `HostStore` and the output buffer, `HostCsrRead` and the numbers
of the status registers (20_memory.md R62 to R65).
-/

namespace Sys2Proof.Machine

/-! ### A step by the host operation it takes -/

theorem step_load {s : State} {m : List Byte} {es : List Event}
    (h : s.inputs = .host (.load m) :: es) : step s = hostLoad m (s.setInputs es) :=
  step_cons h

theorem step_cmd {s : State} {w : Word} {es : List Event} (h : s.inputs = .host (.cmd w) :: es) :
    step s = hostCmd w (s.setInputs es) :=
  step_cons h

theorem step_store {s : State} {es : List Event} (h : s.inputs = .host .store :: es) :
    step s = .next ((s.setInputs es).reply (.bytes s.obuf.bytes)) :=
  step_cons h

theorem step_csrRead {s : State} {c : Csr} {es : List Event}
    (h : s.inputs = .host (.csrRead c) :: es) :
    step s = .next ((s.setInputs es).reply (.word (csrWord (s.setInputs es) c))) :=
  step_cons h

/-! ### `HostLoad` -/

/-- A faulted device ignores `HostLoad` (60_exceptions.md R331). -/
theorem hostLoad_faulted {s : State} (h : s.fault ≠ none) (m : List Byte) :
    hostLoad m s = .next s :=
  command_faulted h _ _

/-- A message above `MMAX` is not loaded (60_exceptions.md R326). -/
theorem hostLoad_tooLong {s : State} {m : List Byte} (h : s.fault = none)
    (hm : s.build.mmax < m.length) : hostLoad m s = .next (s.raise .capacityExceeded) :=
  command_raises h (by simp [hm]) _

/-- A message of at most `MMAX` bytes becomes the whole input buffer. -/
theorem hostLoad_fits {s : State} {m : List Byte} (h : s.fault = none)
    (hm : m.length ≤ s.build.mmax) : hostLoad m s = .next (s.setInput m) :=
  command_performs h (by simp [hm]) _

/-- Settles O15: the three cases of `hostLoad`, each on the state without the event. -/
theorem hostLoadReplacesTheInput : Obligations.HostLoadReplacesTheInput := by
  intro s m es h
  rw [step_load h]
  refine ⟨fun hf => ?faulted, fun hi hm => ?tooLong, fun hi hm => ?fits⟩
  case faulted => exact hostLoad_faulted (s := s.setInputs es) hf m
  case tooLong => exact hostLoad_tooLong (s := s.setInputs es) hi hm
  case fits =>
    exact ⟨(s.setInputs es).setInput m, hostLoad_fits hi hm, rfl, Memory.ofBytes_length m,
      Memory.ofBytes_read m⟩

/-! ### `HostCmd` -/

/-- Also a faulted device answers a legal word as the decoded command does: it ignores both. -/
theorem hostCmd_decoded {w : Word} {i : Instr} (hd : decode w = .ok i) (s : State) :
    hostCmd w s = exec i s := by
  by_cases hs : s.fault = none
  · rw [hostCmd_idle hs, hd]
  · rw [hostCmd_faulted hs, exec_eq_command, command_faulted hs]

/-- Settles O5: the step performs the command word, which decodes. -/
theorem stepRunsTheDecodedCommand : Obligations.StepRunsTheDecodedCommand :=
  fun s _ es _ h hd => (step_cmd h).trans (hostCmd_decoded hd (s.setInputs es))

/-! ### `HostStore` -/

/-- A buffer in the canonical form is the buffer of its own bytes. -/
theorem Memory.ofBytes_of_bytes {m : Memory} (h : m.wf = true) : Memory.ofBytes m.bytes = m := by
  have haddr : m.map Prod.fst = List.range m.length := by simpa [Memory.wf] using h
  rw [Memory.ofBytes, Memory.bytes_length, ← haddr]
  exact (List.zip_of_prod rfl rfl).symm

/-- The byte of an index is the byte at that address, in the canonical form. -/
theorem Memory.bytes_getElem? {m : Memory} (h : m.wf = true) (a : Nat) :
    m.bytes[a]? = m.read a := by
  rw [← Memory.ofBytes_read, Memory.ofBytes_of_bytes h]

/-- Settles O16: the reply is the bytes of the canonical output buffer. -/
theorem hostStoreReturnsTheOutput : Obligations.HostStoreReturnsTheOutput := by
  refine ⟨fun s es h hwf => ?_, step_store rfl⟩
  exact ⟨s.obuf.bytes, step_store h, Memory.bytes_length s.obuf, Memory.bytes_getElem? hwf⟩

/-! ### `HostCsrRead` -/

/-- Every register is the register of its number. -/
@[simp] theorem csrOfNumber_number (c : Csr) : csrOfNumber c.number = some c := by cases c <;> rfl

/-- The numbering of the status registers, read in both directions. -/
theorem csrOfNumber_eq_some {n : Nat} {c : Csr} : csrOfNumber n = some c ↔ c.number = n := by
  refine ⟨fun h => ?_, fun h => h ▸ csrOfNumber_number c⟩
  match n, h with
  | 0, rfl | 1, rfl | 2, rfl | 3, rfl | 4, rfl | 5, rfl | 6, rfl => rfl

/-- The numbers above 6, and no others, name no register (10_state.md R40). -/
theorem csrOfNumber_ne_none (n : Nat) : csrOfNumber n ≠ none ↔ n ≤ 6 := by
  match n with
  | 0 | 1 | 2 | 3 | 4 | 5 | 6 => simp [csrOfNumber]
  | n + 7 => simp [csrOfNumber]

/-- The five lengths and capacities fit 32 bits, so their registers show them unchanged: the largest
is `OLEN`, at most `MMAX + 16`. -/
theorem State.Inv.csrWord_toNat {s : State} (h : s.Inv) :
    (csrWord s .ilen).toNat = s.ilen ∧ (csrWord s .olen).toNat = s.olen ∧
      (csrWord s .glen).toNat = s.glen ∧ (csrWord s .capm).toNat = s.build.mmax ∧
      (csrWord s .capg).toNat = s.build.gmax := by
  obtain ⟨-, hgm, homax⟩ := h.build_valid
  have hmo : s.build.mmax ≤ s.build.omax := Nat.le_add_right _ _
  have hil := h.ilen_le
  have hol := h.olen_le
  have hgl := h.glen_le
  refine ⟨?_, ?_, ?_, ?_, ?_⟩ <;> exact Nat.mod_eq_of_lt (by omega)

/-- Settles O17: the reply by the step, the register by its number, the lengths by their bounds. -/
theorem hostCsrReadReturnsTheRegister : Obligations.HostCsrReadReturnsTheRegister := by
  refine ⟨fun s es n c hc h => ?_, csrOfNumber_ne_none, rfl, rfl, fun s n c hs hc => ?_⟩
  · exact ⟨csrOfNumber_eq_some.mp hc, step_csrRead h⟩
  · obtain ⟨hil, hol, hgl, hmm, hgm⟩ := hs.csrWord_toNat
    obtain rfl := csrOfNumber_eq_some.mp hc
    cases c <;> simp [Csr.number, hil, hol, hgl, hmm, hgm]

end Sys2Proof.Machine
end

section
/-!
PROOFS. The decoder and the encoder are inverse to each other on the well-formed commands, and the
words between which they pass are the legal ones of the opcode map (30_encoding.md R90 to R99). All
of it rests on one lemma, `decode_eq_ok_iff`.
-/

namespace Sys2Proof

open Sys2Proof.Spec

/-! ### What each format accepts -/

/-- Format `Z` accepts its command exactly where both operand fields are 0 (30_encoding.md R91). -/
theorem formatZ_eq_ok_iff {i j : Instr} {a : BitVec 8} {n : BitVec 16} :
    formatZ j a n = .ok i ↔ j = i ∧ 0 = a ∧ 0 = n := by
  unfold formatZ
  split <;> grind

/-- Format `I` accepts a well-formed command exactly where `N` is 0 (30_encoding.md R92). -/
theorem formatI_eq_ok_iff {i j : Instr} {n : BitVec 16} :
    formatI j n = .ok i ↔ j = i ∧ j.wf = true ∧ 0 = n := by
  unfold formatI
  split <;> grind

/-- The table of the mode codes, read in both directions (30_encoding.md R96). -/
theorem modeOfCode_eq_some_iff {k : Nat} {m : Mode} : modeOfCode k = some m ↔ m.code = k := by
  refine ⟨fun h => ?_, fun h => h ▸ by cases m <;> rfl⟩
  match k, h with
  | 0, rfl | 1, rfl | 2, rfl | 3, rfl | 4, rfl | 5, rfl => rfl

/-- The mode codes are 0..5 (30_encoding.md R96). -/
theorem exists_mode_of_code {k : Nat} (h : k ≤ 5) : ∃ m : Mode, m.code = k := by
  match k, h with
  | 0, _ | 1, _ | 2, _ | 3, _ | 4, _ | 5, _ => exact ⟨_, modeOfCode_eq_some_iff.mp rfl⟩

/-- Field `A` of a `MINIT` holds the whole code of its mode. -/
theorem operandA_minit_toNat (m : Mode) (n : BitVec 16) :
    (operandA (.minit m n)).toNat = m.code := by
  cases m <;> rfl

/-- Cfb and Mac, whose codes are 4 and 5, take a size up to 16; the other modes reserve the field
(30_encoding.md R93). -/
theorem minit_wf_iff {m : Mode} {n : BitVec 16} : (Instr.minit m n).wf = true ↔
    (m.code ≤ 3 ∧ n = 0) ∨ (4 ≤ m.code ∧ m.code ≤ 5 ∧ n.toNat ≤ 16) := by
  cases m <;> simp [Instr.wf, Mode.code]

/-- Format `M` accepts a mode code with a size its mode allows (30_encoding.md R93). -/
theorem formatM_eq_ok_iff {i : Instr} {a : BitVec 8} {n : BitVec 16} :
    formatM a n = .ok i ↔
      ∃ m, .minit m n = i ∧ (Instr.minit m n).wf = true ∧ operandA (.minit m n) = a := by
  simp only [← BitVec.toNat_inj, operandA_minit_toNat, ← modeOfCode_eq_some_iff]
  unfold formatM
  split <;> grind

/-! ### The opcode map, in both directions -/

/-- The fields of a well-formed command decode to it. -/
theorem decodeFields_of_wf {i : Instr} (h : i.wf = true) :
    decodeFields (opcode i).toNat (operandA i) (operandN i) = .ok i := by
  cases i with
  | strk a => exact formatI_eq_ok_iff.mpr ⟨rfl, h, rfl⟩
  | stsk a => exact formatI_eq_ok_iff.mpr ⟨rfl, h, rfl⟩
  | minit m n => exact formatM_eq_ok_iff.mpr ⟨m, rfl, h, rfl⟩
  | _ => exact formatZ_eq_ok_iff.mpr ⟨rfl, rfl, rfl⟩

/-- Fields that decode are those of a well-formed command. -/
theorem fields_of_decodeFields {k : Nat} {a : BitVec 8} {n : BitVec 16} {i : Instr}
    (h : decodeFields k a n = .ok i) :
    i.wf = true ∧ (opcode i).toNat = k ∧ operandA i = a ∧ operandN i = n := by
  unfold decodeFields at h
  split at h
  case h_5 | h_7 => -- `STRK`, `STSK`
    obtain ⟨rfl, hwf, rfl⟩ := formatI_eq_ok_iff.mp h
    exact ⟨hwf, rfl, rfl, rfl⟩
  case h_15 => -- `MINIT`
    obtain ⟨m, rfl, hwf, ha⟩ := formatM_eq_ok_iff.mp h
    exact ⟨hwf, rfl, ha, rfl⟩
  case h_19 => cases h -- no row
  all_goals -- format `Z`
    obtain ⟨rfl, rfl, rfl⟩ := formatZ_eq_ok_iff.mp h
    exact ⟨rfl, rfl, rfl, rfl⟩

/-! ### Words and their fields -/

/-- A word is put together from its own fields (30_encoding.md R90). -/
theorem commandWord_of_fields (w : Word) : commandWord (opcField w) (aField w) (nField w) = w := by
  have hoa : opcField w ++ aField w = w.extractLsb' 16 16 :=
    BitVec.extractLsb'_append_extractLsb'_eq_extractLsb' rfl
  have hall : w.extractLsb' 16 16 ++ nField w = w.extractLsb' 0 32 :=
    BitVec.extractLsb'_append_extractLsb'_eq_extractLsb' rfl
  rw [commandWord, hoa, hall, BitVec.extractLsb'_eq_self]

/-- The word of a command is the one with its opcode and operands in the three fields. -/
theorem encode_eq_iff {i : Instr} {w : Word} :
    encode i = w ↔ opcode i = opcField w ∧ operandA i = aField w ∧ operandN i = nField w := by
  constructor
  · rintro rfl
    obtain ⟨ho, ha, hn⟩ := commandWord_fields (opcode i) (operandA i) (operandN i)
    exact ⟨ho.symm, ha.symm, hn.symm⟩
  · rintro ⟨ho, ha, hn⟩
    rw [encode, ho, ha, hn, commandWord_of_fields]

/-- A word decodes to the well-formed commands that encode to it, and to nothing else. -/
theorem decode_eq_ok_iff {w : Word} {i : Instr} :
    decode w = .ok i ↔ i.wf = true ∧ encode i = w := by
  rw [encode_eq_iff]
  constructor
  · intro h
    obtain ⟨hwf, ho, ha, hn⟩ := fields_of_decodeFields h
    exact ⟨hwf, BitVec.toNat_inj.mp ho, ha, hn⟩
  · rintro ⟨hwf, ho, ha, hn⟩
    rw [decode, ← ho, ← ha, ← hn, decodeFields_of_wf hwf]

/-- Settles O1: the command is well-formed and encodes to the word that is decoded. -/
theorem encodedCommandDecodesBack : Obligations.EncodedCommandDecodesBack :=
  fun _ hwf => decode_eq_ok_iff.mpr ⟨hwf, rfl⟩

/-- Settles O3: the other direction of the same equivalence. -/
theorem decodedCommandEncodesToItsWord : Obligations.DecodedCommandEncodesToItsWord :=
  fun _ _ h => decode_eq_ok_iff.mp h

/-! ### The legal words -/

/-- A word that decodes is legal: the operand conditions of its command are those of its row in
30_encoding.md R95. -/
theorem legalWord_of_decode {w : Word} {i : Instr} (h : decode w = .ok i) : legalWord w := by
  obtain ⟨hwf, hw⟩ := decode_eq_ok_iff.mp h
  obtain ⟨ho, ha, hn⟩ := encode_eq_iff.mp hw
  rw [legalWord, ← ho, ← ha, ← hn]
  cases i with
  | strk a =>
    obtain ⟨hlo, hhi⟩ := of_decide_eq_true hwf
    exact .inr (.inl ⟨rfl, hlo, hhi, rfl⟩)
  | stsk a =>
    obtain ⟨hlo, hhi⟩ := of_decide_eq_true hwf
    exact .inr (.inr (.inl ⟨rfl, hlo, hhi, rfl⟩))
  | minit m n =>
    rw [operandA_minit_toNat]
    obtain hreserved | hsized := minit_wf_iff.mp hwf
    · exact .inr (.inr (.inr (.inl ⟨rfl, hreserved⟩)))
    · exact .inr (.inr (.inr (.inr ⟨rfl, hsized⟩)))
  | _ => exact .inl ⟨by decide, rfl, rfl⟩

/-- The opcodes of format `Z` decode with both operand fields 0. -/
theorem decodeFields_formatZ {k : Nat}
    (h : k ∈ [0x00, 0x01, 0x02, 0x03, 0x05, 0x10, 0x11, 0x12, 0x13, 0x20, 0x28, 0x29, 0x31, 0x32,
      0x33]) : ∃ i, decodeFields k 0 0 = .ok i := by
  fin_cases h <;> exact ⟨_, rfl⟩

/-- Format `M` accepts the codes 0..3 with the field `N` 0 and the codes 4 and 5 with a size up to
16 (30_encoding.md R97). -/
theorem formatM_accepts {a : BitVec 8} {n : BitVec 16}
    (h : (a.toNat ≤ 3 ∧ n = 0) ∨ (4 ≤ a.toNat ∧ a.toNat ≤ 5 ∧ n.toNat ≤ 16)) :
    ∃ i, formatM a n = .ok i := by
  obtain ⟨m, hm⟩ := exists_mode_of_code (k := a.toNat) (by omega)
  have ha : operandA (.minit m n) = a := BitVec.toNat_inj.mp ((operandA_minit_toNat m n).trans hm)
  exact ⟨.minit m n, formatM_eq_ok_iff.mpr ⟨m, rfl, minit_wf_iff.mpr (hm ▸ h), ha⟩⟩

/-- A legal word decodes, by the format of its opcode. -/
theorem decode_of_legalWord {w : Word} (h : legalWord w) : ∃ i, decode w = .ok i := by
  unfold decode
  obtain ⟨ho, ha, hn⟩ | ⟨ho, hlo, hhi, hn⟩ | ⟨ho, hlo, hhi, hn⟩ | ⟨ho, hM⟩ | ⟨ho, hM⟩ := h
  · rw [ha, hn]
    exact decodeFields_formatZ ho
  · rw [ho]
    exact ⟨_, formatI_eq_ok_iff.mpr ⟨rfl, decide_eq_true ⟨hlo, hhi⟩, hn.symm⟩⟩
  · rw [ho]
    exact ⟨_, formatI_eq_ok_iff.mpr ⟨rfl, decide_eq_true ⟨hlo, hhi⟩, hn.symm⟩⟩
  · rw [ho]
    exact formatM_accepts (.inl hM)
  · rw [ho]
    exact formatM_accepts (.inr hM)

/-- Settles O2: operand conditions one way, the format of the opcode the other. -/
theorem legalWordsAreExactlyTheOpcodeMap : Obligations.LegalWordsAreExactlyTheOpcodeMap :=
  fun _ => ⟨fun ⟨_, h⟩ => legalWord_of_decode h, decode_of_legalWord⟩

/-! ### The sample words -/

/-- None of the words 30_encoding.md R98 lists is legal. -/
theorem illegalExamples_not_legal : ∀ w ∈ illegalExamples, ¬ legalWord w := by
  intro w hw
  unfold illegalExamples at hw
  fin_cases hw <;> unfold legalWord <;> decide

/-- Settles O4: the decoder runs on each listed word, and a word that decoded would be legal. -/
theorem sampleWordsDecodeAsListed : Obligations.SampleWordsDecodeAsListed := by
  refine ⟨rfl, rfl, rfl, rfl, rfl, rfl, rfl, rfl, rfl, rfl, rfl, rfl, rfl, rfl, rfl, rfl, rfl, rfl,
    rfl, rfl, rfl, rfl, rfl, rfl, rfl, rfl, rfl, rfl, fun w hw i h => ?illegal, rfl, rfl⟩
  exact illegalExamples_not_legal w hw (legalWord_of_decode h)

end Sys2Proof
end

section
/-!
PROOFS. The arithmetic of GF(2^8) (40_galois_transform.md R124, R125): `gf_mul` is additive in each
argument and commutes with multiplication by `x`, and every byte is made from 1 by `x` and
exclusive-or; the laws of the field follow by that induction.
-/

namespace Sys2Proof.Machine

/-! ### Multiplication by `x` and the loop of `gf_mul` -/

/-- A byte taken or left out by an exclusive-or of two bits. -/
theorem ite_xor (c d : Bool) (a : Byte) :
    (if c ^^ d then a else 0) = (if c then a else 0) ^^^ (if d then a else 0) := by
  cases c <;> cases d <;> simp

/-- Multiplication by `x`: a shift of the byte, reduced by `POLY` where a bit falls out. -/
theorem xtime_eq (a : Byte) : xtime a = a <<< 1 ^^^ (if a.msb then 0xC3 else 0) := by
  revert a; decide +kernel

theorem xtime_xor (a b : Byte) : xtime (a ^^^ b) = xtime a ^^^ xtime b := by
  simp only [xtime_eq, BitVec.msb_xor, BitVec.shiftLeft_xor_distrib, ite_xor]
  ac_rfl

theorem xtime_zero : xtime 0 = 0 := rfl

/-- One pass of the loop, its conditional exclusive-or as one with a byte or with 0. -/
theorem gfLoop_succ (k : Nat) (a b r : Byte) :
    gfLoop (k + 1) a b r =
      gfLoop k (xtime a) (b >>> 1) (r ^^^ (if b.getLsbD 0 then a else 0)) := by
  rw [gfLoop]
  split <;> simp

theorem gfLoop_xor_left (k : Nat) (a a' b r r' : Byte) :
    gfLoop k (a ^^^ a') b (r ^^^ r') = gfLoop k a b r ^^^ gfLoop k a' b r' := by
  induction k generalizing a a' b r r' with
  | zero => rfl
  | succ k ih =>
    simp only [gfLoop_succ, ← ih, xtime_xor]
    split
    · congr 1; ac_rfl
    · simp only [BitVec.xor_zero, BitVec.ofNat_eq_ofNat]

theorem gfLoop_xor_right (k : Nat) (a b b' r r' : Byte) :
    gfLoop k a (b ^^^ b') (r ^^^ r') = gfLoop k a b r ^^^ gfLoop k a b' r' := by
  induction k generalizing a b b' r r' with
  | zero => rfl
  | succ k ih =>
    simp only [gfLoop_succ, ← ih, BitVec.ushiftRight_xor_distrib, BitVec.getLsbD_xor, ite_xor]
    congr 1
    ac_rfl

theorem gfLoop_xtime (k : Nat) (a b r : Byte) :
    gfLoop k (xtime a) b (xtime r) = xtime (gfLoop k a b r) := by
  induction k generalizing a b r with
  | zero => rfl
  | succ k ih =>
    simp only [gfLoop_succ, ← ih, xtime_xor, apply_ite xtime, xtime_zero]

/-- What holds of the multiplicand and of the sum so far, and is kept by `x` and by exclusive-or,
holds of the result. -/
theorem gfLoop_induct {P : Byte → Prop} (hx : ∀ a, P a → P (xtime a))
    (hadd : ∀ a b, P a → P b → P (a ^^^ b)) (k : Nat) {a r : Byte} (b : Byte) (ha : P a)
    (hr : P r) : P (gfLoop k a b r) := by
  induction k generalizing a b r with
  | zero => exact hr
  | succ k ih =>
    rw [gfLoop]
    split
    · exact ih _ (hx a ha) (hadd r a hr ha)
    · exact ih _ (hx a ha) hr

/-! ### The laws of `gf_mul` -/

theorem gfMul_xor_left (a b c : Byte) : gfMul (a ^^^ b) c = gfMul a c ^^^ gfMul b c :=
  gfLoop_xor_left 8 a b c 0 0

theorem gfMul_xor_right (a b c : Byte) : gfMul a (b ^^^ c) = gfMul a b ^^^ gfMul a c :=
  gfLoop_xor_right 8 a b c 0 0

theorem gfMul_xtime_left (a b : Byte) : gfMul (xtime a) b = xtime (gfMul a b) :=
  gfLoop_xtime 8 a b 0

@[simp] theorem gfMul_one_left (b : Byte) : gfMul 1 b = b := by revert b; decide +kernel

/-- Every byte is made from 1 by multiplication by `x` and exclusive-or: it is `gf_mul(1, a)`. -/
theorem byte_induction {P : Byte → Prop} (one : P 1) (x : ∀ a, P a → P (xtime a))
    (xor : ∀ a b, P a → P b → P (a ^^^ b)) (a : Byte) : P a := by
  have zero : P 0 := xor 1 1 one one
  rw [← gfMul_one_left a]
  exact gfLoop_induct x xor 8 a one zero

theorem gfMul_one (a : Byte) : gfMul a 1 = a := by
  induction a using byte_induction with
  | one => rfl
  | x a ih => rw [gfMul_xtime_left, ih]
  | xor a a' ih ih' => rw [gfMul_xor_left, ih, ih']

theorem gfMul_xtime (a b : Byte) : gfMul a (xtime b) = xtime (gfMul a b) := by
  induction a using byte_induction with
  | one => rw [gfMul_one_left, gfMul_one_left]
  | x a ih => rw [gfMul_xtime_left, gfMul_xtime_left, ih]
  | xor a a' ih ih' => rw [gfMul_xor_left, gfMul_xor_left, xtime_xor, ih, ih']

theorem gfMul_comm (a b : Byte) : gfMul a b = gfMul b a := by
  induction a using byte_induction with
  | one => rw [gfMul_one_left, gfMul_one]
  | x a ih => rw [gfMul_xtime_left, gfMul_xtime, ih]
  | xor a a' ih ih' => rw [gfMul_xor_left, gfMul_xor_right, ih, ih']

theorem gfMul_assoc (a b c : Byte) : gfMul (gfMul a b) c = gfMul a (gfMul b c) := by
  induction a using byte_induction with
  | one => rw [gfMul_one_left, gfMul_one_left]
  | x a ih => simp only [gfMul_xtime_left, ih]
  | xor a a' ih ih' => simp only [gfMul_xor_left, ih, ih']

theorem gfMul_zero_left (a : Byte) : gfMul 0 a = 0 :=
  (gfMul_xor_left 0 0 a).trans BitVec.xor_self

theorem gfMul_zero (a : Byte) : gfMul a 0 = 0 := by
  rw [gfMul_comm, gfMul_zero_left]

/-! ### `x` is primitive, so the field has no zero divisor -/

theorem eq_zero_of_xtime_eq_zero {a : Byte} : xtime a = 0 → a = 0 := by
  revert a; decide +kernel

theorem eq_zero_of_iterate_xtime_eq_zero {a : Byte} (k : Nat) (h : xtime^[k] a = 0) : a = 0 := by
  induction k generalizing a with
  | zero => exact h
  | succ k ih => exact eq_zero_of_xtime_eq_zero (ih h)

/-- `x` has order 255: its order divides 255, and no maximal proper divisor of 255 is a period. -/
theorem minimalPeriod_xtime : Function.minimalPeriod xtime 1 = 255 := by
  have hperiod {n : Nat} : Function.minimalPeriod xtime 1 ∣ n ↔ xtime^[n] 1 = 1 :=
    Function.isPeriodicPt_iff_minimalPeriod_dvd.symm
  have hdivisors : ∀ n < 256, n ∣ 255 → n = 255 ∨ n ∣ 85 ∨ n ∣ 51 ∨ n ∣ 15 := by decide +kernel
  have h255 : Function.minimalPeriod xtime 1 ∣ 255 := hperiod.mpr (by decide +kernel)
  rcases hdivisors _ (Nat.lt_succ_of_le (Nat.le_of_dvd (by decide) h255)) h255 with
    h | h | h | h
  · exact h
  · exact absurd (hperiod.mp h) (by decide +kernel)
  · exact absurd (hperiod.mp h) (by decide +kernel)
  · exact absurd (hperiod.mp h) (by decide +kernel)

/-- Every byte but 0 is a power of `x`: the first 255 powers are 255 bytes other than 0. -/
theorem exists_iterate_xtime {a : Byte} (ha : a ≠ 0) : ∃ k, xtime^[k] 1 = a := by
  have hinj : Set.InjOn (fun k => xtime^[k] 1) (Finset.range 255 : Set Nat) := by
    rw [Finset.coe_range, ← minimalPeriod_xtime]
    exact Function.iterate_injOn_Iio_minimalPeriod
  have hne : Set.MapsTo (fun k => xtime^[k] 1) (Finset.range 255 : Set Nat)
      (Finset.univ.erase (0 : Byte) : Set Byte) := fun k _ => by
    have h1 : (1 : Byte) ≠ 0 := by decide
    simpa using mt (eq_zero_of_iterate_xtime_eq_zero k) h1
  have hcard : (Finset.univ.erase (0 : Byte)).card ≤ (Finset.range 255).card := by decide +kernel
  obtain ⟨k, _, hk⟩ :=
    Finset.surjOn_of_injOn_of_card_le _ hne hinj hcard (Finset.mem_coe.mpr (by simpa using ha))
  exact ⟨k, hk⟩

theorem gfMul_iterate_xtime_left (k : Nat) (a b : Byte) :
    gfMul (xtime^[k] a) b = xtime^[k] (gfMul a b) := by
  induction k generalizing a with
  | zero => rfl
  | succ k ih => rw [Function.iterate_succ_apply, ih, gfMul_xtime_left, Function.iterate_succ_apply]

theorem gfMul_eq_zero {a b : Byte} (h : gfMul a b = 0) : a = 0 ∨ b = 0 := by
  refine or_iff_not_imp_left.mpr fun ha => ?_
  obtain ⟨k, rfl⟩ := exists_iterate_xtime ha
  rw [gfMul_iterate_xtime_left, gfMul_one_left] at h
  exact eq_zero_of_iterate_xtime_eq_zero k h

/-- Settles O26: the laws by induction over the bytes, the absence of zero divisors because `x` is
primitive, the ten values by evaluation. -/
theorem fieldMultiplicationLaws : Obligations.FieldMultiplicationLaws := by
  refine ⟨gfMul_comm, gfMul_zero, gfMul_one, gfMul_xor_right, fun _ _ => gfMul_eq_zero, ?_⟩
  decide +kernel

end Sys2Proof.Machine
end

section
/-!
PROOFS. The shift register of the linear diffusion (40_galois_transform.md R127 to R133). A weighted
sum is additive in the block; a weighted sum of a stepped block is another weighted sum of the block
before the step (`pullBack`), which gives the matrix row by row; the inverse step is the forward step on
the reversed block, which carries every fact over to the inverse.
-/

namespace Sys2Proof.Machine

open Sys2Proof.Spec

/-! ### Blocks byte by byte -/

theorem blockOf_getElem {l : List Byte} (h : l.length = 16) (i : Nat) (hi : i < 16) :
    (blockOf l)[i] = l[i] := by
  rw [← Vector.getElem_toList (by simp [hi])]
  simp only [blockOf_toList h]

theorem block_ext {u v : Block} (h : u.toList = v.toList) : u = v := Vector.toList_inj.mp h

theorem xorBytes_cons (a b : Byte) (l m : List Byte) :
    xorBytes (a :: l) (b :: m) = (a ^^^ b) :: xorBytes l m := rfl

/-! ### Weighted sums -/

/-- The sum of the bytes of `v`, each multiplied by its weight in `r`; bytes without a weight count
nothing. -/
def weighted (r v : List Byte) : Byte := xorAll (List.zipWith gfMul r v)

@[simp] theorem weighted_nil_left (v : List Byte) : weighted [] v = 0 := rfl

@[simp] theorem weighted_nil_right (r : List Byte) : weighted r [] = 0 := by cases r <;> rfl

@[simp] theorem weighted_cons (a b : Byte) (r v : List Byte) :
    weighted (a :: r) (b :: v) = gfMul a b ^^^ weighted r v := rfl

/-- `l_sum` weighs with `LC` (40_galois_transform.md R127). -/
theorem lSum_eq_weighted (v : Block) : lSum v = weighted lc v.toList :=
  List.foldl_eq_foldr

/-- A row of a matrix weighs the block (40_galois_transform.md R132). -/
theorem matrixRow_eq_weighted (M : List (List Byte)) (v : Block) (i : Nat) :
    matrixRow M v i = weighted (M.getD i []) v.toList := rfl

theorem weighted_append (r' v' : List Byte) : ∀ {r v : List Byte}, r.length = v.length →
    weighted (r ++ r') (v ++ v') = weighted r v ^^^ weighted r' v'
  | [], [], _ => by simp
  | a :: r, b :: v, h => by
    simp [weighted_append r' v' (Nat.succ.inj h), BitVec.xor_assoc]

/-- Bytes beyond the weights count nothing. -/
theorem weighted_take {n : Nat} : ∀ {r : List Byte} (v : List Byte), r.length ≤ n →
    weighted r (v.take n) = weighted r v
  | [], _, _ => rfl
  | _ :: _, [], _ => by simp
  | a :: r, b :: v, h => by
    obtain ⟨n, rfl⟩ : ∃ k, n = k + 1 := ⟨n - 1, by simp at h; omega⟩
    simp [weighted_take v (Nat.le_of_succ_le_succ h)]

/-- A weight 0 at the end counts nothing. -/
theorem weighted_concat_zero : ∀ r v : List Byte, weighted (r ++ [0]) v = weighted r v
  | [], [] => rfl
  | [], b :: _ => by rw [List.nil_append, weighted_cons, gfMul_zero_left]; simp
  | _ :: _, [] => rfl
  | a :: r, b :: v => by
    rw [List.cons_append, weighted_cons, weighted_cons, weighted_concat_zero r v]

/-- A weighted sum is additive in the weights. -/
theorem weighted_xorBytes_left : ∀ {r r' : List Byte} (v : List Byte), r.length = r'.length →
    weighted (xorBytes r r') v = weighted r v ^^^ weighted r' v
  | [], [], _, _ => by simp
  | _ :: _, _ :: _, [], _ => by simp
  | a :: r, a' :: r', b :: v, h => by
    simp only [xorBytes_cons, weighted_cons, weighted_xorBytes_left v (Nat.succ.inj h), gfMul_xor_left]
    ac_rfl

/-- A weighted sum is additive in the bytes. -/
theorem weighted_xorBytes_right : ∀ (r : List Byte) {u v : List Byte}, u.length = v.length →
    weighted r (xorBytes u v) = weighted r u ^^^ weighted r v
  | [], _, _, _ => by simp
  | _ :: _, [], [], _ => by simp
  | a :: r, b :: u, b' :: v, h => by
    simp only [xorBytes_cons, weighted_cons, weighted_xorBytes_right r (Nat.succ.inj h), gfMul_xor_right]
    ac_rfl

/-- A factor common to all weights comes out of the sum. -/
theorem weighted_map_gfMul (a : Byte) : ∀ r v : List Byte,
    weighted (r.map (gfMul a)) v = gfMul a (weighted r v)
  | [], _ => (gfMul_zero a).symm
  | _ :: _, [] => (gfMul_zero a).symm
  | b :: r, c :: v => by
    rw [List.map_cons, weighted_cons, weighted_cons, weighted_map_gfMul a r v, gfMul_xor_right,
      gfMul_assoc]

theorem weighted_reverse : ∀ {r v : List Byte}, r.length = v.length →
    weighted r.reverse v.reverse = weighted r v
  | [], [], _ => rfl
  | a :: r, b :: v, h => by
    have h : r.length = v.length := Nat.succ.inj h
    rw [List.reverse_cons, List.reverse_cons, weighted_append _ _ (by simpa using h),
      weighted_reverse h, weighted_cons a b, BitVec.xor_comm]
    simp

/-! ### The forward step and its matrix -/

/-- The new byte in front, the last byte dropped (40_galois_transform.md R128). -/
theorem rStep_toList (v : Block) : (rStep v).toList = weighted lc v.toList :: v.toList.take 15 := by
  rw [rStep, blockOf_toList (by simp), lSum_eq_weighted]

/-- The weights on a block that give the sum with weights `r` on the block one step later: `r` times
the matrix of `r_step`. -/
def pullBack (r : List Byte) : List Byte :=
  xorBytes (lc.map (gfMul (r.headD 0))) (r.tail ++ [0])

theorem pullBack_length {r : List Byte} (h : r.length = 16) : (pullBack r).length = 16 := by
  simp [pullBack, h, show lc.length = 16 from rfl]

theorem weighted_rStep {r : List Byte} (h : r.length = 16) (v : Block) :
    weighted r (rStep v).toList = weighted (pullBack r) v.toList := by
  obtain ⟨a, r, rfl⟩ := List.exists_cons_of_length_eq_add_one h
  have hr : r.length = 15 := Nat.succ.inj h
  calc weighted (a :: r) (rStep v).toList
      = gfMul a (weighted lc v.toList) ^^^ weighted r (v.toList.take 15) := by
        rw [rStep_toList, weighted_cons]
    _ = weighted (lc.map (gfMul a)) v.toList ^^^ weighted (r ++ [0]) v.toList := by
        rw [weighted_map_gfMul, weighted_take _ hr.le, weighted_concat_zero]
    _ = weighted (pullBack (a :: r)) v.toList :=
        (weighted_xorBytes_left _ (by simp [hr, lc])).symm

theorem weighted_iterate_rStep (n : Nat) {r : List Byte} (h : r.length = 16) (v : Block) :
    weighted r (rStep^[n] v).toList = weighted (pullBack^[n] r) v.toList := by
  induction n generalizing r with
  | zero => rfl
  | succ n ih => rw [Function.iterate_succ_apply', weighted_rStep h, ih (pullBack_length h),
      Function.iterate_succ_apply]

theorem rStep_getElem_zero (v : Block) : (rStep v)[0] = weighted lc v.toList := by
  rw [← Vector.getElem_toList (by simp)]
  simp only [rStep_toList, List.getElem_cons_zero]

theorem rStep_getElem_succ (v : Block) (i : Nat) (hi : i + 1 < 16) : (rStep v)[i + 1] = v[i] := by
  rw [← Vector.getElem_toList (by simpa using hi)]
  simp only [rStep_toList, List.getElem_cons_succ, List.getElem_take, Vector.getElem_toList]

/-- A byte moves one index further with every step. -/
theorem iterate_rStep_getElem (n i : Nat) (hi : i < 16) (v : Block) :
    (rStep^[n + 1 + i] v)[i] = weighted (pullBack^[n] lc) v.toList := by
  induction i with
  | zero =>
    simp only [Nat.add_zero, Function.iterate_succ_apply', rStep_getElem_zero]
    exact weighted_iterate_rStep n rfl v
  | succ i ih =>
    rw [← Nat.add_assoc]
    simp only [Function.iterate_succ_apply', rStep_getElem_succ]
    exact ih _

/-- Each row of the matrix is the row below it pulled back by one step; the last is `LC`. -/
theorem linMatrix_rows {k : Nat} (hk : k < 16) : linMatrix.getD (15 - k) [] = pullBack^[k] lc := by
  have hrow : ∀ k < 15, linMatrix.getD (15 - (k + 1)) [] =
      pullBack (linMatrix.getD (15 - k) []) := by
    decide +kernel
  induction k with
  | zero => rfl
  | succ k ih => rw [hrow k (by omega), ih (by omega), Function.iterate_succ_apply']

/-- The sixteen steps are the listed matrix (40_galois_transform.md R132). -/
theorem lFwd_getElem (v : Block) (i : Nat) (hi : i < 16) :
    (lFwd v)[i] = matrixRow linMatrix v i := by
  have hsteps : 16 = 15 - i + 1 + i := by omega
  have hrow := linMatrix_rows (show 15 - i < 16 by omega)
  rw [show 15 - (15 - i) = i by omega] at hrow
  rw [matrixRow_eq_weighted, hrow, ← iterate_rStep_getElem (15 - i) i hi v]
  simp only [lFwd, ← hsteps]

/-! ### The inverse step is the forward step on the reversed block -/

/-- The first fifteen coefficients read the same from either end (40_galois_transform.md R126). -/
theorem lc_palindrome : (lc.take 15).reverse = lc.take 15 := rfl

/-- The last byte of a block enters `l_sum` as it is: `LC[15]` is 1. -/
theorem weighted_lc_append {t : List Byte} (h : t.length = 15) (b : Byte) :
    weighted lc (t ++ [b]) = weighted (lc.take 15) t ^^^ b := by
  have hlc : lc = lc.take 15 ++ [1] := rfl
  conv_lhs => rw [hlc]
  rw [weighted_append _ _ (by rw [h]; rfl), weighted_cons, gfMul_one_left]
  simp

/-- The string without its first byte, then the sum over the rotated string (40_galois_transform.md
R130). -/
theorem rInvStep_toList {v : Block} {b : Byte} {t : List Byte} (h : v.toList = b :: t) :
    (rInvStep v).toList = t ++ [weighted lc (t ++ [b])] := by
  have ht : t.length = 15 := by simpa [h] using v.length_toList
  have hw : (rotateDown v).toList = t ++ [b] := by
    rw [rotateDown, blockOf_toList (by simp), h]; rfl
  rw [rInvStep, blockOf_toList (by simp), lSum_eq_weighted, hw, List.take_left' ht]

/-- A block as its first fifteen bytes and its last. -/
theorem exists_toList_eq_concat (v : Block) : ∃ t b, v.toList = t ++ [b] ∧ t.length = 15 :=
  have hne : v.toList ≠ [] := by simp
  ⟨_, _, (List.dropLast_append_getLast hne).symm, by simp⟩

theorem weighted_lc_reverse {t : List Byte} (h : t.length = 15) (b : Byte) :
    weighted lc (t.reverse ++ [b]) = weighted lc (t ++ [b]) := by
  have hlen : (lc.take 15).length = t.length := by rw [h]; rfl
  rw [weighted_lc_append h, weighted_lc_append (by simpa using h), ← weighted_reverse hlen,
    lc_palindrome]

/-- Reversal carries the forward step to the inverse step. -/
theorem reverse_rStep (v : Block) : (rStep v).reverse = rInvStep v.reverse := by
  obtain ⟨t, b, hv, ht⟩ := exists_toList_eq_concat v
  have hr : v.reverse.toList = b :: t.reverse := by simp [Vector.toList_reverse, hv]
  apply block_ext
  rw [rInvStep_toList hr, Vector.toList_reverse, rStep_toList, hv, weighted_lc_reverse ht,
    List.take_left' ht, List.reverse_cons]

/-- Reversal carries any number of forward steps to inverse steps. -/
theorem reverse_iterate_rStep (n : Nat) (v : Block) :
    (rStep^[n] v).reverse = rInvStep^[n] v.reverse :=
  Function.Semiconj.iterate_right (f := Vector.reverse) reverse_rStep n v

theorem rInvStep_eq (v : Block) : rInvStep v = (rStep v.reverse).reverse := by
  rw [reverse_rStep, Vector.reverse_reverse]

theorem lInv_eq (v : Block) : lInv v = (lFwd v.reverse).reverse := by
  rw [lFwd, reverse_iterate_rStep, Vector.reverse_reverse, lInv]

/-- The inverse matrix is the forward matrix turned by half a turn. -/
theorem linInvMatrix_row {i : Nat} (hi : i < 16) :
    linInvMatrix.getD i [] = (linMatrix.getD (15 - i) []).reverse := by
  revert i; decide +kernel

theorem linMatrix_row_length {i : Nat} (hi : i < 16) : (linMatrix.getD i []).length = 16 := by
  revert i; decide +kernel

theorem lInv_getElem (v : Block) (i : Nat) (hi : i < 16) :
    (lInv v)[i] = matrixRow linInvMatrix v i := by
  have hlen : (linMatrix.getD (15 - i) []).length = v.reverse.toList.length := by
    rw [linMatrix_row_length (by omega), v.reverse.length_toList]
  simp only [lInv_eq, Vector.getElem_reverse]
  rw [lFwd_getElem, matrixRow_eq_weighted, matrixRow_eq_weighted, linInvMatrix_row hi,
    ← weighted_reverse hlen, Vector.toList_reverse, List.reverse_reverse]

/-! ### The two steps undo each other -/

/-- The inverse step recomputes the byte that the forward step dropped (40_galois_transform.md R130). -/
theorem rInvStep_rStep : Function.LeftInverse rInvStep rStep := by
  intro v
  obtain ⟨t, b, hv, ht⟩ := exists_toList_eq_concat v
  have hr : (rStep v).toList = weighted lc (t ++ [b]) :: t := by
    rw [rStep_toList, hv, List.take_left' ht]
  apply block_ext
  rw [rInvStep_toList hr, hv, weighted_lc_append ht, weighted_lc_append ht, ← BitVec.xor_assoc,
    BitVec.xor_self, BitVec.zero_xor]

theorem rStep_rInvStep : Function.LeftInverse rStep rInvStep := by
  intro v
  rw [rInvStep_eq, ← Vector.reverse_reverse (rStep _), reverse_rStep, Vector.reverse_reverse,
    rInvStep_rStep, Vector.reverse_reverse]

theorem lInv_lFwd : Function.LeftInverse lInv lFwd := rInvStep_rStep.iterate 16

theorem lFwd_lInv : Function.LeftInverse lFwd lInv := rStep_rInvStep.iterate 16

/-! ### Linearity -/

/-- A function of a block that distributes over the exclusive-or of blocks (40_galois_transform.md
R133). -/
def Linear (F : Block → Block) : Prop := ∀ u v, F (xorBlock u v) = xorBlock (F u) (F v)

theorem Linear.iterate {F : Block → Block} (h : Linear F) (n : Nat) : Linear F^[n] := by
  induction n with
  | zero => exact fun _ _ => rfl
  | succ n ih => exact fun u v => by simp only [Function.iterate_succ_apply, h u v, ih _ _]

theorem Linear.comp {F G : Block → Block} (hF : Linear F) (hG : Linear G) : Linear (F ∘ G) :=
  fun u v => by simp only [Function.comp, hG u v, hF _ _]

theorem linear_reverse : Linear Vector.reverse := fun u v => by
  apply block_ext
  rw [xorBlock_toList, Vector.toList_reverse, xorBlock_toList, xorBytes,
    List.reverse_zipWith (by simp), Vector.toList_reverse, Vector.toList_reverse, xorBytes]

theorem linear_rStep : Linear rStep := fun u v => by
  apply block_ext
  rw [xorBlock_toList, rStep_toList, rStep_toList, rStep_toList, xorBlock_toList,
    weighted_xorBytes_right lc (by simp), xorBytes_cons, xorBytes, List.take_zipWith, xorBytes]

theorem linear_rInvStep : Linear rInvStep :=
  funext rInvStep_eq ▸ (linear_reverse.comp linear_rStep).comp linear_reverse

theorem linear_lFwd : Linear lFwd := linear_rStep.iterate 16

theorem linear_lInv : Linear lInv := linear_rInvStep.iterate 16

/-- Settles O27: the steps are linear, so their iterates are; the substitutions move the zero block,
which no linear function does. -/
theorem diffusionIsLinearSubstitutionIsNot : Obligations.DiffusionIsLinearSubstitutionIsNot :=
  ⟨linear_rStep, linear_rInvStep, linear_lFwd, linear_lInv,
    ⟨zeroBlock, zeroBlock, by decide +kernel⟩, ⟨zeroBlock, zeroBlock, by decide +kernel⟩⟩

/-- Settles O28: the matrix row by row, forward and, by reversal, inverse. -/
theorem diffusionIsTheListedMatrix : Obligations.DiffusionIsTheListedMatrix :=
  ⟨fun v i => lFwd_getElem v i i.isLt, fun v i => lInv_getElem v i i.isLt, rfl⟩

/-! ### The substitutions -/

/-- The two tables are inverse to each other (40_galois_transform.md R122). -/
theorem piInvAt_piAt (b : Byte) : piInvAt (piAt b) = b := by revert b; decide +kernel

theorem piAt_piInvAt (b : Byte) : piAt (piInvAt b) = b := by revert b; decide +kernel

theorem piAt_toNat (b : Byte) : (piAt b).toNat = substitutionTable.getD b.toNat 0 := by
  revert b; decide +kernel

/-- Each byte is substituted by itself (40_galois_transform.md R123). -/
theorem sFwd_getElem (v : Block) (i : Nat) (hi : i < 16) : (sFwd v)[i] = piAt v[i] := by
  rw [sFwd, blockOf_getElem (by simp)]
  simp

theorem sInv_getElem (v : Block) (i : Nat) (hi : i < 16) : (sInv v)[i] = piInvAt v[i] := by
  rw [sInv, blockOf_getElem (by simp)]
  simp

theorem sInv_sFwd : Function.LeftInverse sInv sFwd := fun v => by
  apply Vector.ext
  intro i hi
  rw [sInv_getElem, sFwd_getElem, piInvAt_piAt]

theorem sFwd_sInv : Function.LeftInverse sFwd sInv := fun v => by
  apply Vector.ext
  intro i hi
  rw [sFwd_getElem, sInv_getElem, piAt_piInvAt]

/-- Settles O29: the tables are inverse byte by byte, the two steps of the diffusion undo each other and
so do their sixteenfold iterates; the printed values by evaluation. -/
theorem transformsAreInversePairs : Obligations.TransformsAreInversePairs := by
  refine ⟨fun b => ⟨piInvAt_piAt b, piAt_piInvAt b⟩, fun v => ⟨sInv_sFwd v, sFwd_sInv v⟩,
    fun v => ⟨lInv_lFwd v, lFwd_lInv v⟩, piAt_toNat, ?_⟩
  decide +kernel

end Sys2Proof.Machine
end

section
/-!
PROOFS. The six commands that compute on the working block: what `SUB`, `ISUB`, `LIN` and `ILIN` give
(40_galois_transform.md R134 to R137), and that each of the six is undone by its inverse
(42_block_cipher.md R167, R169).
-/

namespace Sys2Proof.Machine

open Sys2Proof.Spec

/-! ### The block cipher's rounds undo each other -/

theorem decRound_encRound (b k k' : Block) :
    decRound (xorBlock (encRound b k) k') k' = xorBlock b k := by
  rw [decRound, xorBlock_cancel, encRound, lInv_lFwd, sInv_sFwd]

theorem encRound_decRound (b k k' : Block) :
    encRound (xorBlock (decRound b k') k) k = xorBlock b k' := by
  rw [encRound, xorBlock_cancel, decRound, sFwd_sInv, lFwd_lInv]

/-- The rounds of `dec_block` take back the rounds of `enc_block` and its last key, up to the first
key. -/
theorem decRounds_encRounds (k : Block) (ks : List Block) (b : Block) :
    ks.reverse.foldl decRound
      (xorBlock ((k :: ks).dropLast.foldl encRound b) ((k :: ks).getLast (List.cons_ne_nil k ks))) =
      xorBlock b k := by
  induction ks generalizing k b with
  | nil => rfl
  | cons k' ks ih =>
    simp only [List.reverse_cons, List.foldl_append, List.foldl_cons, List.foldl_nil,
      List.dropLast_cons_cons, List.getLast_cons_cons, ih]
    exact decRound_encRound b k k'

/-- The rounds of `enc_block` take back the rounds of `dec_block` and its last key, up to the first
key. -/
theorem encRounds_decRounds (k : Block) (ks : List Block) (c : Block) :
    (k :: ks).dropLast.foldl encRound (xorBlock (ks.reverse.foldl decRound c) k) =
      xorBlock c ((k :: ks).getLast (List.cons_ne_nil k ks)) := by
  induction ks generalizing k c with
  | nil => rfl
  | cons k' ks ih =>
    simp only [List.reverse_cons, List.foldl_append, List.foldl_cons, List.foldl_nil,
      List.dropLast_cons_cons, List.getLast_cons_cons, encRound_decRound, ih]

/-- Ten round keys as the first and the others, and which of them the last key addition takes. -/
theorem exists_keys_eq_cons (keys : RoundKeys) : ∃ k ks, keys.toList = k :: ks ∧
    keys.toList.take 9 = (k :: ks).dropLast ∧ roundKey keys 1 = k ∧
      roundKey keys 10 = (k :: ks).getLast (List.cons_ne_nil k ks) := by
  obtain ⟨k, ks, h⟩ := List.exists_cons_of_length_eq_add_one keys.length_toList
  have hlen : ks.length = 9 := by simpa [h] using keys.length_toList
  refine ⟨k, ks, h, ?_, ?_, ?_⟩
  · rw [h, List.dropLast_eq_take, List.length_cons, hlen]
  · rw [roundKey, h]; rfl
  · rw [roundKey, h, List.getLast_eq_getElem]
    simp [hlen]

/-- `dec_block` undoes `enc_block` under the same keys (42_block_cipher.md R167). -/
theorem decBlock_encBlock (keys : RoundKeys) (b : Block) : decBlock keys (encBlock keys b) = b := by
  obtain ⟨k, ks, hkeys, htake, hfirst, hlast⟩ := exists_keys_eq_cons keys
  rw [decBlock, encBlock, htake, hfirst, hlast, hkeys, List.drop_one, List.tail_cons,
    decRounds_encRounds, xorBlock_cancel]

/-- `enc_block` undoes `dec_block` under the same keys (42_block_cipher.md R167). -/
theorem encBlock_decBlock (keys : RoundKeys) (c : Block) : encBlock keys (decBlock keys c) = c := by
  obtain ⟨k, ks, hkeys, htake, hfirst, hlast⟩ := exists_keys_eq_cons keys
  rw [encBlock, decBlock, htake, hfirst, hlast, hkeys, List.drop_one, List.tail_cons,
    encRounds_decRounds, xorBlock_cancel]

/-! ### The commands -/

/-- On a written block the four commands of GaloisTransform pass their check. -/
theorem command_needBlk {s : State} (hs : s.fault = none) (hb : s.blkv = true) (e : State) :
    command s [needBlk s] e = .next e :=
  command_performs hs (by simp [needBlk, hb]) e

/-- Settles O30: the check passes, the effect is the substitution, byte by byte. -/
theorem substituteCommandsActBytewise : Obligations.SubstituteCommandsActBytewise := by
  intro s hs hb
  refine ⟨⟨_, (exec_sub s).trans (command_needBlk hs hb _), rfl, fun i => ?_⟩,
    ⟨_, (exec_isub s).trans (command_needBlk hs hb _), rfl, fun i => ?_⟩⟩
  · exact sFwd_getElem s.blk i i.isLt
  · exact sInv_getElem s.blk i i.isLt

/-- Settles O31: the check passes, the effect is the listed matrix. -/
theorem diffusionCommandsApplyTheMatrix : Obligations.DiffusionCommandsApplyTheMatrix := by
  intro s hs hb
  refine ⟨⟨_, (exec_lin s).trans (command_needBlk hs hb _), rfl, fun i => ?_⟩,
    ⟨_, (exec_ilin s).trans (command_needBlk hs hb _), rfl, fun i => ?_⟩⟩
  · exact lFwd_getElem s.blk i i.isLt
  · exact lInv_getElem s.blk i i.isLt

/-- `i` is a command that, on a device without a fault where the validity bits it needs are set,
replaces the working block by `F` of it, under the round keys, and does nothing else. -/
def TransformsBlk (i : Instr) (F : RoundKeys → Block → Block) : Prop :=
  ∀ s : State, s.fault = none → s.blkv = true → (i = .encb ∨ i = .decb → s.rkv = true) →
    exec i s = .next (s.setBlk (F s.rk s.blk))

theorem transformsBlk_of_needBlk {i : Instr} {F : Block → Block}
    (h : ∀ s, exec i s = command s [needBlk s] (s.setBlk (F s.blk))) :
    TransformsBlk i fun _ => F :=
  fun s hs hb _ => (h s).trans (command_needBlk hs hb _)

theorem transformsBlk_of_needRoundKeys {i : Instr} {F : RoundKeys → Block → Block}
    (hi : i = .encb ∨ i = .decb)
    (h : ∀ s, exec i s = command s [needRoundKeys s, needBlk s] (s.setBlk (F s.rk s.blk))) :
    TransformsBlk i F :=
  fun s hs hb hr =>
    (h s).trans (command_performs hs (by simp [needRoundKeys, needBlk, hb, hr hi]) _)

/-- Two commands whose functions are inverse under any round keys undo each other in the whole state. -/
theorem TransformsBlk.undo {i j : Instr} {F G : RoundKeys → Block → Block} (hi : TransformsBlk i F)
    (hj : TransformsBlk j G) (hGF : ∀ ks, Function.LeftInverse (G ks) (F ks)) {s t : State}
    (hs : s.fault = none) (hb : s.blkv = true) (hri : i = .encb ∨ i = .decb → s.rkv = true)
    (hrj : j = .encb ∨ j = .decb → s.rkv = true) (h : exec i s = .next t) : exec j t = .next s := by
  obtain rfl : s.setBlk (F s.rk s.blk) = t := Host.Outcome.next.inj ((hi s hs hb hri).symm.trans h)
  calc exec j (s.setBlk (F s.rk s.blk))
      = .next (s.setBlk (G s.rk (F s.rk s.blk))) := hj (s.setBlk _) hs hb hrj
    _ = .next s := by rw [hGF]; rfl

/-- Settles O32: each command of a pair transforms the working block by a function that the other's
function inverts. -/
theorem inverseCommandsUndoEachOther : Obligations.InverseCommandsUndoEachOther := by
  intro s t i j hs hb hr hij h
  have hsub := transformsBlk_of_needBlk exec_sub
  have hisub := transformsBlk_of_needBlk exec_isub
  have hlin := transformsBlk_of_needBlk exec_lin
  have hilin := transformsBlk_of_needBlk exec_ilin
  have hencb := transformsBlk_of_needRoundKeys (.inl rfl) exec_encb
  have hdecb := transformsBlk_of_needRoundKeys (.inr rfl) exec_decb
  simp only [List.mem_cons, Prod.mk.injEq, List.not_mem_nil, or_false] at hij
  rcases hij with ⟨rfl, rfl⟩ | ⟨rfl, rfl⟩ | ⟨rfl, rfl⟩ | ⟨rfl, rfl⟩ | ⟨rfl, rfl⟩ | ⟨rfl, rfl⟩
  · exact hsub.undo hisub (fun _ => sInv_sFwd) hs hb hr (by simp) h
  · exact hisub.undo hsub (fun _ => sFwd_sInv) hs hb hr (by simp) h
  · exact hlin.undo hilin (fun _ => lInv_lFwd) hs hb hr (by simp) h
  · exact hilin.undo hlin (fun _ => lFwd_lInv) hs hb hr (by simp) h
  · exact hencb.undo hdecb decBlock_encBlock hs hb hr (fun _ => hr (.inl rfl)) h
  · exact hdecb.undo hencb encBlock_decBlock hs hb hr (fun _ => hr (.inr rfl)) h

end Sys2Proof.Machine
end

section
/-!
PROOFS. The key schedule (41_key_schedule.md): a round constant ends in its index because the last row of
the diffusion matrix is `LC`, whose last coefficient is 1; the round keys are four runs of eight Feistel
rounds, each written as the sequence of its running states (`feistelRun`).
-/

namespace Sys2Proof.Machine

open Sys2Proof.Spec

/-! ### Round constants -/

theorem weighted_zeros : ∀ (r : List Byte) (n : Nat), weighted r (zeros n) = 0
  | [], _ => rfl
  | _ :: _, 0 => rfl
  | a :: r, n + 1 => by
    rw [zeros, List.replicate_succ, weighted_cons, gfMul_zero, ← zeros, weighted_zeros r n]
    exact BitVec.xor_zero

/-- The last byte of the diffusion is `l_sum`: the last row of the matrix is `LC` (40_galois_transform.md
R132). -/
theorem lFwd_getElem_last (v : Block) : (lFwd v)[15] = weighted lc v.toList := by
  rw [lFwd_getElem v 15 (by decide), matrixRow_eq_weighted]; rfl

theorem roundConst_getElem_last (j : Nat) : (roundConst j)[15] = BitVec.ofNat 8 j := by
  rw [roundConst, lFwd_getElem_last, blockOf_toList (by simp [zeros]),
    weighted_lc_append (by simp [zeros]), weighted_zeros]
  exact BitVec.zero_xor

/-- Settles O34: the fifteen zeros add nothing to the weighted sum, and the index has the weight 1. -/
theorem roundConstantEndsInItsIndex : Obligations.RoundConstantEndsInItsIndex := fun j hj => by
  rw [roundConst_getElem_last, BitVec.toNat_ofNat, Nat.mod_eq_of_lt hj]

/-- A number that fits a byte is denoted by zeros and that byte (00_scope.md R13). -/
theorem bytesBE_of_lt {n : Nat} (h : n < 256) (k : Nat) :
    bytesBE (k + 1) n = zeros k ++ [BitVec.ofNat 8 n] := by
  have hzero : ∀ i ∈ List.range k, BitVec.ofNat 8 (n / 256 ^ (k + 1 - 1 - i)) = 0 := by
    intro i hi
    have hik : k + 1 - 1 - i ≠ 0 := by have := List.mem_range.mp hi; omega
    rw [Nat.div_eq_of_lt (h.trans_le (Nat.le_self_pow hik 256)), BitVec.ofNat_eq_ofNat]
  rw [bytesBE, List.range_succ, List.map_append, List.map_congr_left hzero]
  simp [zeros]

/-- A round constant is the diffusion of the block that denotes its index (41_key_schedule.md R150). -/
theorem roundConst_eq {j : Nat} (h : j < 256) : roundConst j = lFwd (block j) := by
  rw [roundConst, block, bytesBE_of_lt h]

/-! ### Eight rounds as a sequence of running states -/

/-- The running state after `k` rounds of outer iteration `i + 1`, from `p` (41_key_schedule.md R153);
`eightRounds_eq_feistelRun` ties it to `eightRounds`. -/
def feistelRun (p : Block × Block) (i : Nat) : Nat → Block × Block
  | 0 => p
  | k + 1 => feistel (feistelRun p i k) (8 * i + k + 1)

theorem foldl_feistel_eq_feistelRun (p : Block × Block) (i k : Nat) :
    ((List.range k).map (fun k => 8 * i + k + 1)).foldl feistel p = feistelRun p i k := by
  induction k with
  | zero => rfl
  | succ k ih => rw [List.range_succ, List.map_append, List.foldl_append, ih]; rfl

theorem eightRounds_eq_feistelRun (p : Block × Block) (i : Nat) :
    eightRounds p (i + 1) = feistelRun p i 8 :=
  foldl_feistel_eq_feistelRun p i 8

/-- One inner round with its constant written as the diffusion of its index (41_key_schedule.md R150,
R152). -/
theorem feistelRun_succ (p : Block × Block) {i k : Nat} (hi : i < 4) (hk : k < 8) :
    feistelRun p i (k + 1) =
      (xorBlock (feistelRun p i k).2
        (lFwd (sFwd (xorBlock (feistelRun p i k).1 (lFwd (block (8 * i + k + 1)))))),
        (feistelRun p i k).1) := by
  rw [feistelRun, feistel, roundConst_eq (by omega)]

/-! ### The round keys -/

/-- Round keys `2 * i + 1` and `2 * i + 2`. -/
def keyPair (ks : RoundKeys) (i : Nat) : Block × Block :=
  (roundKey ks (2 * i + 1), roundKey ks (2 * i + 2))

/-- Round keys 1 and 2 are the halves of the master key (41_key_schedule.md R153). -/
theorem keyExpand_halves (k : Key) :
    (keyExpand k)[0].toList ++ (keyExpand k)[1].toList = k.toList := by
  calc (keyExpand k)[0].toList ++ (keyExpand k)[1].toList
      = (keyLeft k).toList ++ (keyRight k).toList := rfl
    _ = k.toList.take 16 ++ k.toList.drop 16 := by
        rw [keyLeft, keyRight, blockOf_toList (by simp), blockOf_toList (by simp)]
    _ = k.toList := List.take_append_drop 16 k.toList

/-- Each later pair is eight rounds from the pair before it (41_key_schedule.md R153). -/
theorem keyPair_keyExpand_succ (k : Key) {i : Nat} (hi : i < 4) :
    keyPair (keyExpand k) (i + 1) = feistelRun (keyPair (keyExpand k) i) i 8 := by
  rw [← eightRounds_eq_feistelRun]
  match i, hi with
  | 0, _ => rfl
  | 1, _ => rfl
  | 2, _ => rfl
  | 3, _ => rfl

/-- Settles O33: the check passes, the effect stores the expanded key, and each pair of it is the end of
the run of eight rounds from the pair before. -/
theorem keyExpansionCommand : Obligations.KeyExpansionCommand := by
  intro s hs hk
  refine ⟨_, (exec_kexp s).trans (command_performs hs (by simp [needKey, hk]) _), rfl,
    keyExpand_halves s.mkey, fun i => ?_⟩
  exact ⟨feistelRun (keyPair (keyExpand s.mkey) i) i, rfl,
    fun k hk8 => feistelRun_succ _ i.isLt hk8, (keyPair_keyExpand_succ s.mkey i.isLt).symm⟩

end Sys2Proof.Machine
end

section
/-!
PROOFS. The block cipher and its commands (42_block_cipher.md). The round trip is already a pair of
lemmas about `encBlock` and `decBlock`; for the commands, the fold over the round keys is written as the
sequence of the blocks between the rounds (`exists_blocks_of_rounds`), the keys listed by their numbers.
-/

namespace Sys2Proof.Machine

/-- Settles O35: each function takes back the other's rounds from the last one inwards. -/
theorem blockCipherRoundTrip : Obligations.BlockCipherRoundTrip :=
  fun keys b => ⟨decBlock_encBlock keys b, encBlock_decBlock keys b⟩

/-! ### The round keys by their numbers -/

theorem roundKey_succ (keys : RoundKeys) {k : Nat} (hk : k < 10) :
    roundKey keys (k + 1) = keys[k] := by
  simp [roundKey, hk]

/-- `enc_block` takes the round keys 1 to 9, in this order (42_block_cipher.md R165). -/
theorem encRoundKeys_eq (keys : RoundKeys) :
    keys.toList.take 9 = (List.range 9).map fun k => roundKey keys (k + 1) := by
  refine List.ext_getElem (by simp) fun k hk _ => ?_
  have hk9 : k < 9 := by simpa using hk
  simp [roundKey_succ keys (show k < 10 by omega)]

/-- `dec_block` takes the round keys 10 down to 2 (42_block_cipher.md R166). -/
theorem decRoundKeys_eq (keys : RoundKeys) :
    (keys.toList.drop 1).reverse = (List.range 9).map fun k => roundKey keys (10 - k) := by
  refine List.ext_getElem (by simp) fun k hk _ => ?_
  have hk9 : k < 9 := by simpa using hk
  have hnum : 10 - k = 8 - k + 1 + 1 := by omega
  simp [hnum, roundKey_succ keys (show 8 - k + 1 < 10 by omega)]

/-! ### The rounds as a sequence of blocks -/

/-- A fold over `n` listed keys runs through the blocks `x 0` to `x n`, one round between two. -/
theorem exists_blocks_of_rounds (round : Block → Block → Block) (key : Nat → Block) (b : Block)
    (n : Nat) :
    ∃ x : Nat → Block, x 0 = b ∧ (∀ k, x (k + 1) = round (x k) (key k)) ∧
      ((List.range n).map key).foldl round b = x n :=
  ⟨fun k => ((List.range k).map key).foldl round b, rfl,
    fun k => by simp [List.range_succ], rfl⟩

/-- `enc_block` as nine rounds and the last key addition (42_block_cipher.md R165). -/
theorem encBlock_rounds (keys : RoundKeys) (b : Block) :
    ∃ x : Nat → Block, x 0 = b ∧
      (∀ k, x (k + 1) = lFwd (sFwd (xorBlock (x k) (roundKey keys (k + 1))))) ∧
      encBlock keys b = xorBlock (x 9) (roundKey keys 10) := by
  obtain ⟨x, hstart, hround, hend⟩ :=
    exists_blocks_of_rounds encRound (fun k => roundKey keys (k + 1)) b 9
  exact ⟨x, hstart, hround, by rw [encBlock, encRoundKeys_eq, hend]⟩

/-- `dec_block` as nine rounds and the last key addition (42_block_cipher.md R166). -/
theorem decBlock_rounds (keys : RoundKeys) (b : Block) :
    ∃ x : Nat → Block, x 0 = b ∧
      (∀ k, x (k + 1) = sInv (lInv (xorBlock (x k) (roundKey keys (10 - k))))) ∧
      decBlock keys b = xorBlock (x 9) (roundKey keys 1) := by
  obtain ⟨x, hstart, hround, hend⟩ :=
    exists_blocks_of_rounds decRound (fun k => roundKey keys (10 - k)) b 9
  exact ⟨x, hstart, hround, by rw [decBlock, decRoundKeys_eq, hend]⟩

/-- Settles O36: the checks pass, the effect is the cipher's function of the working block, and that
function is its nine rounds. -/
theorem blockCommandsRunNineRounds : Obligations.BlockCommandsRunNineRounds := by
  intro s hs hrk hb
  constructor
  · obtain ⟨x, hstart, hround, hend⟩ := encBlock_rounds s.rk s.blk
    have hexec := transformsBlk_of_needRoundKeys (.inl rfl) exec_encb s hs hb fun _ => hrk
    exact ⟨_, hexec, rfl, x, hstart, fun k _ => hround k, hend⟩
  · obtain ⟨x, hstart, hround, hend⟩ := decBlock_rounds s.rk s.blk
    have hexec := transformsBlk_of_needRoundKeys (.inr rfl) exec_decb s hs hb fun _ => hrk
    exact ⟨_, hexec, rfl, x, hstart, fun k _ => hround k, hend⟩

end Sys2Proof.Machine
end

section
/-!
PROOFS. Padding and unpadding (43_mode_common.md R181 to R183). Both readings of the unpadding scan are
one scan from the end, over the bytes `skipped` says; what it does with a message depends only on the
byte where it stops.
-/

namespace Sys2Proof.Machine

/-! ### Padding -/

/-- A padded message ends at the next multiple of the block size. -/
theorem pad_length_eq_mul {s : Nat} (hs : 0 < s) (m : List Byte) :
    (pad m s).length = s * (m.length / s + 1) := by
  have hmod := Nat.mod_lt m.length hs
  have hdiv := Nat.div_add_mod m.length s
  rw [pad_length hs, Nat.mul_add]
  omega

/-- The bytes of a padded message from the end of the message on: the mark and the zeros. -/
theorem pad_getElem?_add (m : List Byte) (s k : Nat) :
    (pad m s)[m.length + k]? = (Config.padMark :: zeros (s - 1 - m.length % s))[k]? := by
  rw [pad, List.getElem?_append_right (Nat.le_add_right _ _), Nat.add_sub_cancel_left]

theorem zeros_getElem? {n k : Nat} (h : k < n) : (zeros n)[k]? = some 0 := by
  simp [zeros, h]

/-- Settles O55: the length by whole blocks, the bytes behind the message by their index in the padding. -/
theorem paddingGrowsToTheNextMultiple : Obligations.PaddingGrowsToTheNextMultiple := by
  intro m s hs
  have hmod := Nat.mod_lt m.length hs
  have hlen := pad_length hs m
  refine ⟨pad_length_eq_mul hs m, by omega, pad_length_le hs m, List.take_left, ?mark, ?zeros⟩
  case mark => exact pad_getElem?_add m s 0
  case zeros =>
    intro i hlt hi
    obtain ⟨k, rfl⟩ := Nat.exists_eq_add_of_lt hlt
    rw [Nat.add_assoc, pad_getElem?_add, List.getElem?_cons_succ]
    exact zeros_getElem? (by omega)

/-! ### The scan -/

/-- The bytes the scan of each reading goes over; `unpad_eq_scan` ties it to `unpad`. -/
def skipped : UnpadRule → Byte → Bool
  | .lastAnywhere, b => b != Config.padMark
  | .zerosThenMark, b => b == 0

theorem unpad_eq_scan (r : UnpadRule) (m : List Byte) :
    unpad r m = cutAtMark m (m.reverse.dropWhile (skipped r)) := by
  cases r <;> rfl

/-- No reading goes over a mark. -/
theorem skipped_mark (r : UnpadRule) : skipped r 0x80 = false := by cases r <;> rfl

/-- Both readings go over the zeros of the padding. -/
theorem skipped_of_mem_zeros (r : UnpadRule) {n : Nat} : ∀ b ∈ zeros n, skipped r b = true := by
  intro b hb
  obtain rfl := List.eq_of_mem_replicate hb
  cases r <;> rfl

theorem skipped_lastAnywhere {v : List Byte} (h : (0x80 : Byte) ∉ v) :
    ∀ b ∈ v, skipped .lastAnywhere b = true := by
  intro b hb
  refine bne_iff_ne.mpr ?_
  rintro rfl
  exact h hb

theorem skipped_zerosThenMark_iff {b : Byte} : skipped .zerosThenMark b = true ↔ b = 0 := beq_iff_eq

theorem eq_zeros_of_skipped {v : List Byte} (h : ∀ b ∈ v, skipped .zerosThenMark b = true) :
    v = zeros v.length :=
  List.eq_replicate_of_mem fun b hb => skipped_zerosThenMark_iff.mp (h b hb)

/-- Where the scan runs over the whole message, nothing is cut. -/
theorem unpad_of_all_skipped {r : UnpadRule} {m : List Byte} (h : ∀ b ∈ m, skipped r b = true) :
    unpad r m = m := by
  have hscan : m.reverse.dropWhile (skipped r) = [] :=
    List.dropWhile_eq_nil_iff.mpr fun b hb => h b (List.mem_reverse.mp hb)
  rw [unpad_eq_scan, hscan, cutAtMark]

/-- Where the scan stops at a byte, the message is cut before it if it is a mark. -/
theorem unpad_of_stop {r : UnpadRule} (u : List Byte) {c : Byte} {v : List Byte}
    (hc : skipped r c = false) (hv : ∀ b ∈ v, skipped r b = true) :
    unpad r (u ++ c :: v) = if c = 0x80 then u else u ++ c :: v := by
  have hscan : (u ++ c :: v).reverse.dropWhile (skipped r) = c :: u.reverse := by
    rw [List.reverse_append, List.reverse_cons, List.append_assoc,
      List.dropWhile_append_of_pos fun b hb => hv b (List.mem_reverse.mp hb)]
    exact List.dropWhile_cons_of_neg (by simp [hc])
  rw [unpad_eq_scan, hscan, cutAtMark, List.reverse_reverse]
  rfl

/-- The scan runs over the whole message or stops at a byte. -/
theorem all_skipped_or_stop (r : UnpadRule) (m : List Byte) :
    (∀ b ∈ m, skipped r b = true) ∨
      ∃ u c v, m = u ++ c :: v ∧ skipped r c = false ∧ ∀ b ∈ v, skipped r b = true := by
  induction m with
  | nil => exact .inl (by simp)
  | cons a m ih =>
    rcases ih with hall | ⟨u, c, v, rfl, hc, hv⟩
    · cases ha : skipped r a with
      | true => exact .inl (List.forall_mem_cons.mpr ⟨ha, hall⟩)
      | false => exact .inr ⟨[], a, m, rfl, ha, hall⟩
    · exact .inr ⟨a :: u, c, v, rfl, hc, hv⟩

/-! ### What each reading does -/

/-- A mark with only skipped bytes behind it is cut off with them. -/
theorem unpad_mark {r : UnpadRule} (u : List Byte) {v : List Byte}
    (hv : ∀ b ∈ v, skipped r b = true) : unpad r (u ++ 0x80 :: v) = u :=
  (unpad_of_stop u (skipped_mark r) hv).trans (if_pos rfl)

/-- Settles O56: what padding appends is a mark with skipped bytes behind it. -/
theorem unpaddingUndoesPadding : Obligations.UnpaddingUndoesPadding :=
  fun r m _ => unpad_mark m (skipped_of_mem_zeros r)

/-- A message that does not end in a mark and zeros keeps its bytes under `zeros_then_mark`. -/
theorem unpad_zerosThenMark_eq_self {m : List Byte}
    (h : ∀ u n, m ≠ u ++ (0x80 : Byte) :: zeros n) : unpad .zerosThenMark m = m := by
  rcases all_skipped_or_stop .zerosThenMark m with hall | ⟨u, c, v, rfl, hc, hv⟩
  · exact unpad_of_all_skipped hall
  · have hne : c ≠ 0x80 := by
      rintro rfl
      exact h u v.length (by rw [← eq_zeros_of_skipped hv])
    rw [unpad_of_stop u hc hv, if_neg hne]

/-- A message without a mark keeps its bytes under both readings. -/
theorem unpad_eq_self_of_no_mark {m : List Byte} (h : (0x80 : Byte) ∉ m) (r : UnpadRule) :
    unpad r m = m := by
  cases r with
  | lastAnywhere => exact unpad_of_all_skipped (skipped_lastAnywhere h)
  | zerosThenMark => exact unpad_zerosThenMark_eq_self fun u n e => h (by simp [e])

/-- Behind its last mark a message has no other; a byte there that is not 0 keeps `zeros_then_mark` from
reaching the mark. -/
theorem unpad_zerosThenMark_of_nonzero (u : List Byte) {v : List Byte} (hv : (0x80 : Byte) ∉ v)
    (h : ∃ b ∈ v, b ≠ 0) : unpad .zerosThenMark (u ++ 0x80 :: v) = u ++ 0x80 :: v := by
  rcases all_skipped_or_stop .zerosThenMark v with hall | ⟨w, c, z, rfl, hc, hz⟩
  · obtain ⟨b, hb, hb0⟩ := h
    exact absurd (skipped_zerosThenMark_iff.mp (hall b hb)) hb0
  · have hne : c ≠ 0x80 := fun e => hv (by simp [e])
    have hstop := unpad_of_stop (u ++ 0x80 :: w) hc hz
    rw [if_neg hne, List.append_assoc] at hstop
    exact hstop

/-- The two readings differ exactly when a byte behind the last mark is not 0. -/
theorem unpad_readings_differ_iff (u : List Byte) {v : List Byte} (hv : (0x80 : Byte) ∉ v) :
    unpad .lastAnywhere (u ++ 0x80 :: v) ≠ unpad .zerosThenMark (u ++ 0x80 :: v) ↔
      ∃ b ∈ v, b ≠ 0 := by
  rw [unpad_mark u (skipped_lastAnywhere hv)]
  constructor
  · intro hne
    by_contra hnone
    have hzero : ∀ b ∈ v, skipped .zerosThenMark b = true := by
      simpa [skipped_zerosThenMark_iff] using hnone
    exact hne (unpad_mark u hzero).symm
  · intro h
    rw [unpad_zerosThenMark_of_nonzero u hv h]
    simp

/-- Settles O57: each clause by where the scan stops. -/
theorem unpaddingScansAsRead : Obligations.UnpaddingScansAsRead :=
  ⟨fun _ h r => unpad_eq_self_of_no_mark h r,
    fun u _ hv => unpad_mark u (skipped_lastAnywhere hv),
    fun u _ => unpad_mark u (skipped_of_mem_zeros _),
    fun _ h => unpad_zerosThenMark_eq_self h,
    fun u _ hv => unpad_readings_differ_iff u hv⟩

end Sys2Proof.Machine
end

section
/-!
PROOFS. The mode layer (43_mode_common.md): when the gamma check fails, what `MINIT` and `MCFG` write,
the lengths of what `MENC` and `MDEC` give, and splitting a Ctr message at a block boundary.
-/

namespace Sys2Proof.Machine

open Sys2Proof.Spec

/-! ### The gamma check -/

/-- A failure among the first checks is the failure of the whole list. -/
theorem firstFailure_append_of_some {cs : List Check} (ds : List Check) {f : FaultCode}
    (h : firstFailure cs = some f) : firstFailure (cs ++ ds) = some f := by
  induction cs with
  | nil => simp at h
  | cons c cs ih =>
    by_cases hc : c.holds = true
    · simpa [hc] using ih (by simpa [hc] using h)
    · simpa [hc] using h

/-- The gammas with which an instance is not configured (43_mode_common.md R186). -/
theorem gammaChecks_configurationError {s : State} (h : (s.mode = .ctr ∧ s.glen < 16) ∨
      (s.mode = .ofb ∧ s.glen < 32) ∨ (s.mode = .cbc ∧ s.glen < 16) ∨
      (s.mode = .cfb ∧ (s.glen < 16 ∨ s.glen % s.seg ≠ 0))) :
    firstFailure (gammaChecks s) = some .configurationError := by
  rcases h with ⟨hm, hlen⟩ | ⟨hm, hlen⟩ | ⟨hm, hlen⟩ | ⟨hm, hlen⟩
  · simp [gammaChecks, hm, hlen]
  · simp [gammaChecks, hm, hlen]
  · simp [gammaChecks, hm, hlen]
  · by_cases hshort : s.glen < 16
    · simp [gammaChecks, hm, hshort]
    · simp [gammaChecks, hm, hlen.resolve_left hshort]

/-- The gammas that are longer than Ctr and Ofb use (43_mode_common.md R186). -/
theorem gammaChecks_refused {s : State}
    (h : (s.mode = .ctr ∧ 16 < s.glen) ∨ (s.mode = .ofb ∧ 32 < s.glen)) :
    firstFailure (gammaChecks s) = some .refused := by
  rcases h with ⟨hm, hlen⟩ | ⟨hm, hlen⟩
  · simp [gammaChecks, hm, hlen, hlen.le]
  · simp [gammaChecks, hm, hlen, hlen.le]

/-- Only a mode with a gamma can fail the gamma check. -/
theorem mode_ne_mac_of_gammaChecks {s : State} {f : FaultCode}
    (h : firstFailure (gammaChecks s) = some f) : s.mode ≠ .mac := by
  intro hm
  simp [gammaChecks, hm] at h

/-- Both mode commands raise the failure of the gamma check before they look at the message. -/
theorem exec_modeCommand_gammaFails {s : State} {i : Instr} {f : FaultCode} (hs : idle s)
    (hi : s.miv = true) (hij : i = .menc ∨ i = .mdec) (hf : firstFailure (gammaChecks s) = some f) :
    exec i s = .next (s.raise f) := by
  refine exec_raises hs ?_
  have hmac := mode_ne_mac_of_gammaChecks hf
  rcases hij with rfl | rfl
  · simpa [checksOf, needInstance, hi] using firstFailure_append_of_some (encryptChecks s) hf
  · simpa [checksOf, needInstance, hi, hmac] using firstFailure_append_of_some (decryptChecks s) hf

/-- Settles O12: each listed gamma fails the gamma check, which both commands raise. -/
theorem gammaCheckFailsAsListed : Obligations.GammaCheckFailsAsListed :=
  fun _ _ hs hi hij =>
    ⟨fun h => exec_modeCommand_gammaFails hs hi hij (gammaChecks_configurationError h),
      fun h => exec_modeCommand_gammaFails hs hi hij (gammaChecks_refused h)⟩

/-! ### `MINIT` and `MCFG` -/

/-- The registers `MINIT` writes; the subkeys are among them in Mac mode only. -/
theorem effectOf_minit_eq (m : Mode) (n : BitVec 16) (s : State) :
    effectOf (.minit m n) s = { s with
      mode := m, mrk := s.rk, seg := segOperand m n, taglen := tagOperand m n, gamma := [], miv := true,
      sk1 := (effectOf (.minit m n) s).sk1, sk2 := (effectOf (.minit m n) s).sk2 } := by
  cases m <;> rfl

@[simp] theorem effectOf_minit_seg (m : Mode) (n : BitVec 16) (s : State) :
    (effectOf (.minit m n) s).seg = segOperand m n := by simp [effectOf]

@[simp] theorem effectOf_minit_taglen (m : Mode) (n : BitVec 16) (s : State) :
    (effectOf (.minit m n) s).taglen = tagOperand m n := by simp [effectOf]

/-- Settles O42: the two checks pass, and the effect field by field. -/
theorem minitBuildsTheInstance : Obligations.MinitBuildsTheInstance := by
  intro s m n hs hr hwf
  have hpass : firstFailure (checksOf (.minit m n) s) = none := by
    simp [checksOf, needOperands, needRoundKeys, hwf, hr]
  refine ⟨effectOf (.minit m n) s, exec_performs hs hpass, ?_, ?_, ?_, ?_, ?_, ?_, ?_⟩
  · simpa using effectOf_minit_eq m n s
  · rintro rfl
    rfl
  · intro hm
    exact (effectOf_minit_seg m n s).trans (segOperand_of_ne_cfb hm n)
  · rintro rfl
    rfl
  · intro hm
    exact (effectOf_minit_taglen m n s).trans (tagOperand_of_ne_mac hm n)
  · rintro rfl
    exact ⟨rfl, rfl⟩
  · obtain ⟨hseg1, hseg16⟩ := segOperand_range hwf
    obtain ⟨htag1, htag16⟩ := tagOperand_range hwf
    rw [sizesLegal, effectOf_minit_seg, effectOf_minit_taglen]
    exact ⟨hseg1, hseg16, htag1, htag16⟩

/-- Settles O43: the capacity is the one check an instance can fail. -/
theorem mcfgStoresTheGamma : Obligations.McfgStoresTheGamma := by
  intro s hs hi
  constructor
  · intro hle
    have hpass : firstFailure (checksOf .mcfg s) = none := by
      simp [checksOf, needInstance, hi, hle]
    exact ⟨s.setGamma s.message, exec_performs hs hpass, rfl, message_length s, fun _ => rfl⟩
  · intro hlt
    have hfail : firstFailure (checksOf .mcfg s) = some .capacityExceeded := by
      simp [checksOf, needInstance, hi, hlt]
    exact exec_raises hs hfail

/-! ### `MENC` and `MDEC` that pass their checks -/

/-- The message check of `MENC`: only Mac has one. -/
theorem encryptChecks_pass {s : State} :
    firstFailure (encryptChecks s) = none ↔ (s.mode = .mac → 0 < s.ilen) := by
  cases hm : s.mode <;> simp [encryptChecks, hm]

theorem mencChecks_of {s : State} (hi : s.miv = true) (hg : gammaReady s)
    (hmac : s.mode = .mac → 0 < s.ilen) : firstFailure (checksOf .menc s) = none := by
  have hrest := firstFailure_append_eq_none.mpr ⟨gammaChecks_pass.mpr hg, encryptChecks_pass.mpr hmac⟩
  simpa [checksOf, needInstance, hi] using hrest

theorem mdecChecks_of {s : State} (hi : s.miv = true) (hmac : s.mode ≠ .mac) (hg : gammaReady s)
    (hw : wholePieces s) : firstFailure (checksOf .mdec s) = none := by
  have hrest := firstFailure_append_eq_none.mpr ⟨gammaChecks_pass.mpr hg, decryptChecks_pass.mpr hw⟩
  simpa [checksOf, needInstance, hi, hmac] using hrest

theorem exec_menc_performs {s : State} (hs : idle s) (hi : s.miv = true) (hg : gammaReady s)
    (hmac : s.mode = .mac → 0 < s.ilen) :
    exec .menc s = .next ((s.setGamma (modeEncrypt s).2).output (modeEncrypt s).1) :=
  exec_performs hs (mencChecks_of hi hg hmac)

theorem exec_mdec_performs {s : State} (hs : idle s) (hi : s.miv = true) (hmac : s.mode ≠ .mac)
    (hg : gammaReady s) (hw : wholePieces s) :
    exec .mdec s = .next ((s.setGamma (modeDecrypt s).2).output (modeDecrypt s).1) :=
  exec_performs hs (mdecChecks_of hi hmac hg hw)

/-! ### The lengths of the outputs -/

/-- A loop whose steps give as many bytes as they take gives as many bytes as it takes. -/
theorem chain_output_length {f : List Byte → List Byte → List Byte × List Byte} :
    ∀ {bs : List (List Byte)} {g : List Byte},
      (∀ b ∈ bs, ∀ g, (f b g).1.length = b.length) → (chain f bs g).1.length = bs.flatten.length
  | [], _, _ => rfl
  | b :: bs, g, h => by
    obtain ⟨hb, hbs⟩ := List.forall_mem_cons.mp h
    simp only [chain, List.flatten_cons, List.length_append, hb, chain_output_length hbs]

/-- The same for a loop over the pieces of a message. -/
theorem chain_chunks_output_length {f : List Byte → List Byte → List Byte × List Byte} {n : Nat}
    (hn : 0 < n) {m g : List Byte} (h : ∀ b ∈ chunks n m, ∀ g, (f b g).1.length = b.length) :
    (chain f (chunks n m) g).1.length = m.length := by
  rw [chain_output_length h, chunks_flatten hn]

theorem chunksUpTo_mem_length_le {n : Nat} :
    ∀ {k : Nat} {m : List Byte}, ∀ b ∈ chunksUpTo n k m, b.length ≤ n
  | 0, _, _, hb => by simp [chunksUpTo] at hb
  | _ + 1, [], _, hb => by simp [chunksUpTo] at hb
  | _ + 1, _ :: _, b, hb => by
    rcases List.mem_cons.mp hb with rfl | hb
    · exact List.length_take_le _ _
    · exact chunksUpTo_mem_length_le b hb

/-- No piece of a message is longer than the size asked for. -/
theorem chunks_mem_length_le {n : Nat} {m : List Byte} : ∀ b ∈ chunks n m, b.length ≤ n :=
  chunksUpTo_mem_length_le

theorem ecbEnc_output_length (E : Block → Block) (m : List Byte) :
    (ecbEnc E m).length = 16 * (m.length / 16 + 1) := by
  rw [ecbEnc, map_onSlice_flatten_length E (pad_length_mod (by decide) m),
    pad_length_eq_mul (by decide)]

theorem ctrApply_output_length (E : Block → Block) (m g : List Byte) :
    (ctrApply E m g).1.length = m.length :=
  chain_chunks_output_length (by decide) fun b hb g => by
    simp [ctrStep, chunks_mem_length_le b hb]

theorem ofbApply_output_length (E : Block → Block) (m g : List Byte) :
    (ofbApply E m g).1.length = m.length :=
  chain_chunks_output_length (by decide) fun b hb g => by
    simp [ofbStep, chunks_mem_length_le b hb]

theorem cbcEnc_output_length (E : Block → Block) (m g : List Byte) :
    (cbcEnc E m g).1.length = 16 * (m.length / 16 + 1) := by
  rw [cbcEnc, chain_chunks_output_length (by decide) fun b hb g => ?_, pad_length_eq_mul (by decide)]
  rw [chunks_mem_length (by decide) (pad_length_mod (by decide) m) b hb]
  exact onSlice_length E _

/-- Cfb pads a ragged message only. -/
theorem cfbPlain_length {n : Nat} (hn : 0 < n) (m : List Byte) :
    (cfbPlain n m).length = if m.length % n = 0 then m.length else n * (m.length / n + 1) := by
  rw [cfbPlain, apply_ite List.length, pad_length_eq_mul hn]

theorem cfbEnc_output_length (E : Block → Block) {n : Nat} (hn : 1 ≤ n ∧ n ≤ 16) (m g : List Byte) :
    (cfbEnc E n m g).1.length = (cfbPlain n m).length := by
  refine chain_chunks_output_length hn.1 fun b hb g => ?_
  have hb := chunks_mem_length hn.1 (cfbPlain_length_mod hn.1 m) b hb
  rw [cfbEncStep_output_length hn.2 hb, hb]

theorem macTag_length (E : Block → Block) (m : List Byte) (sk1 sk2 : Block) {t : Nat} (ht : t ≤ 16) :
    (macTag E m sk1 sk2 t).length = t := by
  simp [macTag, ht]

/-- The length of `MENC`'s output in each mode (43_mode_common.md R190). -/
theorem modeEncrypt_output_length {s : State} (hsz : sizesLegal s) :
    ((s.mode = .ecb ∨ s.mode = .cbc) → (modeEncrypt s).1.length = 16 * (s.ilen / 16 + 1)) ∧
    ((s.mode = .ctr ∨ s.mode = .ofb) → (modeEncrypt s).1.length = s.ilen) ∧
    (s.mode = .cfb → (modeEncrypt s).1.length =
      if s.ilen % s.seg = 0 then s.ilen else s.seg * (s.ilen / s.seg + 1)) ∧
    (s.mode = .mac → (modeEncrypt s).1.length = s.taglen) := by
  obtain ⟨hseg1, hseg16, -, htag16⟩ := hsz
  rw [← message_length]
  unfold modeEncrypt
  refine ⟨?_, ?_, fun hm => ?_, fun hm => ?_⟩
  · rintro (hm | hm) <;> rw [hm]
    · exact ecbEnc_output_length _ _
    · exact cbcEnc_output_length _ _ _
  · rintro (hm | hm) <;> rw [hm]
    · exact ctrApply_output_length _ _ _
    · exact ofbApply_output_length _ _ _
  · rw [hm]
    exact (cfbEnc_output_length _ ⟨hseg1, hseg16⟩ _ _).trans (cfbPlain_length hseg1 _)
  · rw [hm]
    exact macTag_length _ _ _ _ htag16

/-- In the two stream modes `MDEC` keeps the length too (43_mode_common.md R190). -/
theorem modeDecrypt_output_length {s : State} (h : s.mode = .ctr ∨ s.mode = .ofb) :
    (modeDecrypt s).1.length = s.ilen := by
  rw [← message_length]
  unfold modeDecrypt
  rcases h with hm | hm <;> rw [hm]
  · exact ctrApply_output_length _ _ _
  · exact ofbApply_output_length _ _ _

/-- Decrypting the empty message leaves the gamma alone: no step is made. -/
theorem modeDecrypt_gamma_of_empty {s : State} (h : s.ilen = 0) : (modeDecrypt s).2 = s.gamma := by
  have hnil : s.message = [] := List.length_eq_zero_iff.mp ((message_length s).trans h)
  unfold modeDecrypt
  rw [hnil]
  cases s.mode <;> rfl

/-- Settles O50: both commands pass their checks, and the lengths are those of what the mode gives. -/
theorem modeCommandLengths : Obligations.ModeCommandLengths := by
  intro s hs hi hg hsz
  have ⟨hseg1, hseg16, _⟩ := hsz
  constructor
  case left =>
    intro hmac
    refine ⟨_, exec_menc_performs hs hi hg hmac, hs, ?_, Memory.ofBytes_wf _, ?_⟩
    · exact modeEncrypt_gamma_length ⟨hseg1, hseg16⟩ hg
    · rw [State.olen, State.output_obuf, Memory.ofBytes_length]
      exact ⟨modeEncrypt_output_length_le ⟨hseg1, hseg16⟩, modeEncrypt_output_length hsz⟩
  case right =>
    intro hmac hblocks hsegs
    have hw : wholePieces s := ⟨fun h => hblocks (.inl h), fun h => hblocks (.inr h), hsegs⟩
    have hle := modeDecrypt_output_length_le hseg1 hw
    refine ⟨_, exec_mdec_performs hs hi hmac hg hw, hs, ?_, Memory.ofBytes_wf _, ?_⟩
    · exact modeDecrypt_gamma_length ⟨hseg1, hseg16⟩ hg hw
    · rw [State.olen, State.output_obuf, Memory.ofBytes_length]
      exact ⟨hle, modeDecrypt_output_length,
        fun h0 => ⟨Nat.le_zero.mp (h0 ▸ hle), modeDecrypt_gamma_of_empty h0⟩⟩

/-! ### Splitting a Ctr message -/

/-- Every bound that is long enough gives the same pieces. -/
theorem chunksUpTo_congr {n : Nat} (hn : 0 < n) :
    ∀ {k k' : Nat} {m : List Byte}, m.length ≤ k → m.length ≤ k' →
      chunksUpTo n k m = chunksUpTo n k' m
  | 0, 0, [], _, _ | 0, _ + 1, [], _, _ | _ + 1, 0, [], _, _ | _ + 1, _ + 1, [], _, _ => rfl
  | k + 1, k' + 1, b :: bs, h, h' => by
    have hdrop : ((b :: bs).drop n).length ≤ bs.length := by
      rw [List.length_drop, List.length_cons]; omega
    exact congrArg _ (chunksUpTo_congr hn (hdrop.trans (Nat.le_of_succ_le_succ h))
      (hdrop.trans (Nat.le_of_succ_le_succ h')))

/-- The pieces of a message that is not empty: its first bytes, then the pieces of the rest. -/
theorem chunks_of_ne_nil {n : Nat} (hn : 0 < n) {m : List Byte} (hm : m ≠ []) :
    chunks n m = m.take n :: chunks n (m.drop n) := by
  obtain ⟨b, bs, rfl⟩ := List.exists_cons_of_ne_nil hm
  have hdrop : ((b :: bs).drop n).length ≤ bs.length := by
    rw [List.length_drop, List.length_cons]; omega
  exact congrArg _ (chunksUpTo_congr hn hdrop le_rfl)

/-- Whole pieces in front of a message are its first pieces. -/
theorem chunks_flatten_append {n : Nat} (hn : 0 < n) (m : List Byte) :
    ∀ {bs : List (List Byte)}, (∀ b ∈ bs, b.length = n) →
      chunks n (bs.flatten ++ m) = bs ++ chunks n m
  | [], _ => rfl
  | b :: bs, h => by
    obtain ⟨hb, hbs⟩ := List.forall_mem_cons.mp h
    have hne : b ++ (bs.flatten ++ m) ≠ [] :=
      List.append_ne_nil_of_left_ne_nil (List.ne_nil_of_length_pos (hb ▸ hn)) _
    rw [List.flatten_cons, List.append_assoc, chunks_of_ne_nil hn hne, List.take_left' hb,
      List.drop_left' hb, chunks_flatten_append hn m hbs, List.cons_append]

/-- Joining a message to one of whole pieces joins their pieces. -/
theorem chunks_append {n : Nat} (hn : 0 < n) {a : List Byte} (ha : a.length % n = 0) (b : List Byte) :
    chunks n (a ++ b) = chunks n a ++ chunks n b := by
  simpa only [chunks_flatten hn] using chunks_flatten_append hn b (chunks_mem_length hn ha)

/-- `ctr_apply` over a joined message: the second part starts from the gamma the first left. -/
theorem ctrApply_append (E : Block → Block) {a : List Byte} (ha : a.length % 16 = 0)
    (b g : List Byte) :
    ctrApply E (a ++ b) g =
      ((ctrApply E a g).1 ++ (ctrApply E b (ctrApply E a g).2).1,
        (ctrApply E b (ctrApply E a g).2).2) := by
  rw [ctrApply, chunks_append (by decide) ha, chain_append]
  rfl

/-- In Ctr only the length of the gamma is checked. -/
theorem gammaReady_of_ctr {s : State} (hm : s.mode = .ctr) (hg : s.glen = 16) : gammaReady s := by
  simp [gammaReady, hm, hg]

/-- A Ctr instance that has encrypted the message `m`; `exec_menc_ctr` ties it to `MENC`. -/
def State.ctrEncrypted (s : State) (m : List Byte) : State :=
  let p := ctrApply (encBlock s.mrk) m s.gamma
  ((s.setInput m).setGamma p.2).output p.1

/-- `MENC` in Ctr on any message: the checks pass and `ctr_apply` gives the output and the gamma. -/
theorem exec_menc_ctr {s : State} (h : inMode s .ctr) (hg : s.glen = 16) (m : List Byte) :
    exec .menc (s.setInput m) = .next (s.ctrEncrypted m) := by
  obtain ⟨hs, hi, hm⟩ := h
  have hresult : modeEncrypt (s.setInput m) = ctrApply (encBlock s.mrk) m s.gamma := by
    simp [modeEncrypt, hm]
  rw [exec_menc_performs (s := s.setInput m) hs hi (gammaReady_of_ctr hm hg) (by simp [hm]), hresult]
  rfl

/-- Settles O53: three times `ctr_apply`, which over the joined message is the first, then the second
from the gamma the first left. -/
theorem ctrSplitsAtBlockBoundaries : Obligations.CtrSplitsAtBlockBoundaries := by
  intro s a b h hg ha
  have h' : inMode (s.ctrEncrypted a) .ctr := h
  have hg' : (s.ctrEncrypted a).glen = 16 := (ctrApply_gamma_length _ a s.gamma).trans hg
  refine ⟨s.ctrEncrypted a, (s.ctrEncrypted a).ctrEncrypted b, s.ctrEncrypted (a ++ b),
    exec_menc_ctr h hg a, exec_menc_ctr h' hg' b, exec_menc_ctr h hg (a ++ b), ?_, ?_⟩
  · simp [State.ctrEncrypted, ctrApply_append _ ha]
  · simp [State.ctrEncrypted, ctrApply_append _ ha]

end Sys2Proof.Machine
end

section
/-!
PROOFS. The counter of Ctr (44_modes_ecb_ctr_ofb.md R212): byte strings as big-endian numbers
(00_scope.md R13), and the ripple-carry as addition of 1. `ctr_inc` works from the last byte, so its
arithmetic is that of the reversed string, least significant byte first.
-/

namespace Sys2Proof.Machine

open Sys2Proof.Spec

/-! ### Byte strings as numbers -/

/-- The number a byte string denotes with index 0 least significant; `be_eq_leValue` ties it to `be`. -/
def leValue (l : List Byte) : Nat := Nat.ofDigits 256 (l.map BitVec.toNat)

@[simp] theorem leValue_nil : leValue [] = 0 := rfl

@[simp] theorem leValue_cons (b : Byte) (l : List Byte) :
    leValue (b :: l) = b.toNat + 256 * leValue l := Nat.ofDigits_cons

theorem leValue_append (l l' : List Byte) :
    leValue (l ++ l') = leValue l + 256 ^ l.length * leValue l' := by
  simp [leValue, Nat.ofDigits_append]

theorem toNat_lt_of_mem_bytes (l : List Byte) : ∀ d ∈ l.map BitVec.toNat, d < 256 := by
  intro d hd
  obtain ⟨b, -, rfl⟩ := List.mem_map.mp hd
  exact b.isLt

theorem leValue_lt (l : List Byte) : leValue l < 256 ^ l.length := by
  simpa [leValue] using Nat.ofDigits_lt_base_pow_length (by decide) (toNat_lt_of_mem_bytes l)

/-- Strings of one length that denote one number are equal. -/
theorem eq_of_leValue_eq {l l' : List Byte} (hlen : l.length = l'.length)
    (h : leValue l = leValue l') : l = l' :=
  List.map_injective_iff.mpr (fun _ _ => BitVec.eq_of_toNat_eq)
    (Nat.ofDigits_inj_of_len_eq (by decide) (by simpa using hlen) (toNat_lt_of_mem_bytes l)
      (toNat_lt_of_mem_bytes l') h)

theorem be_eq_leValue (g : List Byte) : be g = leValue g.reverse := by
  induction g with
  | nil => rfl
  | cons b bs ih =>
    rw [be, ih, List.reverse_cons, leValue_append, List.length_reverse, leValue_cons, leValue_nil]
    ring

theorem be_lt (g : List Byte) : be g < 256 ^ g.length := by
  simpa [be_eq_leValue] using leValue_lt g.reverse

theorem eq_of_be_eq {g g' : List Byte} (hlen : g.length = g'.length) (h : be g = be g') : g = g' := by
  rw [be_eq_leValue, be_eq_leValue] at h
  exact List.reverse_injective (eq_of_leValue_eq (by simpa using hlen) h)

@[simp] theorem bytesBE_length (k n : Nat) : (bytesBE k n).length = k := by simp [bytesBE]

theorem bytesBE_succ (k n : Nat) : bytesBE (k + 1) n = BitVec.ofNat 8 (n / 256 ^ k) :: bytesBE k n := by
  rw [bytesBE, List.range_succ_eq_map, List.map_cons, List.map_map]
  refine congrArg _ (List.map_congr_left fun i _ => ?_)
  rw [Function.comp_apply, show k + 1 - 1 - (i + 1) = k - 1 - i by omega]

/-- `bytes_be` gives the string that denotes the number, modulo the range of its length. -/
theorem be_bytesBE (k n : Nat) : be (bytesBE k n) = n % 256 ^ k := by
  induction k with
  | zero => simp [bytesBE, be, Nat.mod_one]
  | succ k ih =>
    rw [bytesBE_succ, be, bytesBE_length, ih, BitVec.toNat_ofNat, Nat.mod_pow_succ (b := 256),
      Nat.add_comm, Nat.mul_comm (256 ^ k)]

/-- A string is `bytes_be` of every number that is its own value in the range of its length. -/
theorem eq_bytesBE {g : List Byte} {n : Nat} (h : be g = n % 256 ^ g.length) :
    g = bytesBE g.length n :=
  eq_of_be_eq (by simp) (by rw [h, be_bytesBE])

/-! ### The increment -/

/-- The ripple-carry adds 1, least significant byte first. -/
theorem leValue_incRipple (l : List Byte) :
    leValue (incRipple l) = (leValue l + 1) % 256 ^ l.length := by
  induction l with
  | nil => rfl
  | cons b bs ih =>
    rw [incRipple]
    by_cases hb : b = 0xFF
    case pos =>
      have hcarry : leValue (b :: bs) + 1 = 256 * (leValue bs + 1) := by
        rw [leValue_cons, hb, show (0xFF : Byte).toNat = 255 from rfl]
        ring
      rw [if_pos hb, hcarry, List.length_cons, Nat.pow_succ', Nat.mul_mod_mul_left, ← ih]
      simp
    case neg =>
      have hbyte : (b + 1).toNat = b.toNat + 1 := by bv_omega
      have hlt := leValue_lt ((b + 1) :: bs)
      have hvalue : leValue ((b + 1) :: bs) = leValue (b :: bs) + 1 := by
        rw [leValue_cons, leValue_cons, hbyte]
        ring
      rw [hvalue] at hlt
      rw [if_neg hb, hvalue]
      exact (Nat.mod_eq_of_lt hlt).symm

/-- The increment adds 1 to the big-endian number (44_modes_ecb_ctr_ofb.md R212). -/
theorem be_ctrInc (g : List Byte) : be (ctrInc g) = (be g + 1) % 256 ^ g.length := by
  rw [be_eq_leValue, be_eq_leValue, ctrInc, List.reverse_reverse, leValue_incRipple,
    List.length_reverse]

/-- The increment by its arithmetic form. -/
theorem ctrInc_bytesBE (k n : Nat) : ctrInc (bytesBE k n) = bytesBE k ((n + 1) % 256 ^ k) := by
  refine eq_of_be_eq (by simp) ?_
  rw [be_ctrInc, be_bytesBE, be_bytesBE, bytesBE_length, Nat.mod_mod, Nat.mod_add_mod]

/-- The counter after `k` increments is the gamma plus `k`, modulo its range. -/
theorem iterate_ctrInc (k : Nat) (g : List Byte) :
    ctrInc^[k] g = bytesBE g.length ((be g + k) % 256 ^ g.length) := by
  induction k with
  | zero =>
    rw [Nat.add_zero, Nat.mod_eq_of_lt (be_lt g)]
    exact eq_bytesBE (Nat.mod_eq_of_lt (be_lt g)).symm
  | succ k ih =>
    rw [Function.iterate_succ_apply', ih, ctrInc_bytesBE, Nat.mod_add_mod, Nat.add_assoc]

/-- Settles O58: the increment adds 1; the listed values follow from its arithmetic form. -/
theorem counterIncrementAddsOne : Obligations.CounterIncrementAddsOne :=
  ⟨fun g => ⟨ctrInc_length g, be_ctrInc g⟩, ctrInc_bytesBE 16 0, ctrInc_bytesBE 16 0xff,
    ctrInc_bytesBE 16 0xffff, ctrInc_bytesBE 16 0x1234567890abcef0ffffffffffffffff,
    ctrInc_bytesBE 16 0xffffffffffffffffffffffffffffffff⟩

end Sys2Proof.Machine
end

section
/-!
PROOFS. The modes of 44_modes_ecb_ctr_ofb.md by blocks: what Ecb gives for each block, what the two
stream modes give for each byte, and that decryption gives back what Ecb, Ctr, Ofb and Cbc encrypted.
-/

namespace Sys2Proof.Machine

open Sys2Proof.Spec

/-! ### Pieces -/

/-- Joined pieces of one length, cut again at a piece. -/
theorem slice_flatten {n : Nat} :
    ∀ {bs : List (List Byte)} {k : Nat} (hk : k < bs.length), (∀ b ∈ bs, b.length = n) →
      slice bs.flatten (n * k) n = bs[k]
  | b :: bs, 0, _, h => List.take_left' (h b List.mem_cons_self)
  | b :: bs, k + 1, hk, h => by
    obtain ⟨hb, hbs⟩ := List.forall_mem_cons.mp h
    rw [slice, List.flatten_cons, Nat.mul_succ, Nat.add_comm, ← List.drop_drop, List.drop_left' hb]
    exact slice_flatten (Nat.lt_of_succ_lt_succ hk) hbs

/-- How many pieces an aligned message has. -/
theorem chunks_length {n : Nat} (hn : 0 < n) {m : List Byte} (hm : m.length % n = 0) :
    (chunks n m).length = m.length / n := by
  have hlen := congrArg List.length (chunks_flatten hn m)
  rw [List.length_flatten, List.map_congr_left (chunks_mem_length hn hm), List.map_const',
    List.sum_replicate, smul_eq_mul] at hlen
  rw [← hlen, Nat.mul_div_cancel _ hn]

/-- A property of messages that goes from what is left behind the first piece to the whole message. -/
theorem chunks_induction {n : Nat} (hn : 0 < n) {P : List Byte → Prop} (nil : P [])
    (piece : ∀ m, m ≠ [] → P (m.drop n) → P m) (m : List Byte) : P m := by
  induction hlen : m.length using Nat.strong_induction_on generalizing m with
  | _ k ih =>
    by_cases hm : m = []
    · exact hm ▸ nil
    · have hpos := List.length_pos_of_ne_nil hm
      exact piece m hm (ih (m.drop n).length (by rw [List.length_drop]; omega) (m.drop n) rfl)

/-- A string that is not empty is the first piece of what it begins, if it is a whole piece or
the last. -/
theorem chunks_append_of_first {n : Nat} (hn : 0 < n) {c r : List Byte} (hc : c ≠ [])
    (hle : c.length ≤ n) (hlast : c.length < n → r = []) : chunks n (c ++ r) = c :: chunks n r := by
  rcases hle.lt_or_eq with hlt | hwhole
  · rw [hlast hlt, List.append_nil, chunks_of_ne_nil hn hc, List.take_of_length_le hle,
      List.drop_eq_nil_of_le hle]
  · rw [chunks_of_ne_nil hn (List.append_ne_nil_of_left_ne_nil hc r), List.take_left' hwhole,
      List.drop_left' hwhole]

/-- The loop's first step. -/
theorem chain_cons (f : List Byte → List Byte → List Byte × List Byte) (b : List Byte)
    (bs : List (List Byte)) (g : List Byte) :
    chain f (b :: bs) g = ((f b g).1 ++ (chain f bs (f b g).2).1, (chain f bs (f b g).2).2) := rfl

/-! ### Ecb -/

/-- A block function on whole blocks acts on each by itself. -/
theorem slice_map_onSlice_flatten (F : Block → Block) {m : List Byte} (hm : m.length % 16 = 0)
    {k : Nat} (hk : k < m.length / 16) :
    slice ((chunks 16 m).map (onSlice F)).flatten (16 * k) 16 = onSlice F (slice m (16 * k) 16) := by
  have hk : k < (chunks 16 m).length := by rwa [chunks_length (by decide) hm]
  have hpiece : slice m (16 * k) 16 = (chunks 16 m)[k] := by
    simpa only [chunks_flatten (show 0 < 16 by decide)] using
      slice_flatten hk (chunks_mem_length (by decide) hm)
  rw [slice_flatten (by simpa using hk) (by simp), List.getElem_map, hpiece]

theorem unpad_pad (r : UnpadRule) (m : List Byte) (n : Nat) : unpad r (pad m n) = m :=
  unpaddingUndoesPadding r m n

theorem onSlice_onSlice {D E : Block → Block} (h : Function.LeftInverse D E) {b : List Byte}
    (hb : b.length = 16) : onSlice D (onSlice E b) = b := by
  rw [onSlice, onSlice, blockOf_of_toList, h, blockOf_toList hb]

/-- `ecb_dec` gives back what `ecb_enc` took (44_modes_ecb_ctr_ofb.md R211). -/
theorem ecbDec_ecbEnc {D E : Block → Block} (h : Function.LeftInverse D E) (r : UnpadRule)
    (m : List Byte) : ecbDec r D (ecbEnc E m) = m := by
  have hpieces : chunks 16 (ecbEnc E m) = (chunks 16 (pad m 16)).map (onSlice E) := by
    simpa [ecbEnc] using chunks_flatten_append (n := 16) (by decide) []
      (bs := (chunks 16 (pad m 16)).map (onSlice E)) (by simp)
  have hback : ∀ b ∈ chunks 16 (pad m 16), (onSlice D ∘ onSlice E) b = b := fun b hb =>
    onSlice_onSlice h (chunks_mem_length (by decide) (pad_length_mod (by decide) m) b hb)
  rw [ecbDec, hpieces, List.map_map, List.map_congr_left hback, List.map_id', chunks_flatten (by decide),
    unpad_pad]

/-! ### Stream modes: a keystream that does not depend on the message -/

/-- One block of a stream mode: XOR with the keystream of the gamma, which goes on by itself;
`ctrStep_eq` and `ofbStep_eq` tie it to the modes. -/
def streamStep (ks next : List Byte → List Byte) (b g : List Byte) : List Byte × List Byte :=
  (xorBytes b (ks g), next g)

/-- The gamma of Ofb after one block. -/
def ofbNext (E : Block → Block) (g : List Byte) : List Byte := g.drop 16 ++ onSlice E (g.take 16)

theorem ctrStep_eq (E : Block → Block) : ctrStep E = streamStep (onSlice E) ctrInc := rfl

theorem ofbStep_eq (E : Block → Block) :
    ofbStep E = streamStep (fun g => onSlice E (g.take 16)) (ofbNext E) := rfl

/-- Where both strings have a byte, so has their exclusive-or. -/
theorem xorBytes_getD {a b : List Byte} {j : Nat} (ha : j < a.length) (hb : j < b.length) :
    (xorBytes a b).getD j 0 = a.getD j 0 ^^^ b.getD j 0 := by
  simp [xorBytes, ha, hb]

theorem xorBytes_cancel_of_le {a b : List Byte} (h : a.length ≤ b.length) :
    xorBytes (xorBytes a b) b = a := by
  refine List.ext_getElem (by simp [h]) fun i _ hi => ?_
  simp [xorBytes]

section
variable {ks next : List Byte → List Byte}

/-- The gamma goes on once for each block, the last one short or whole. -/
theorem chain_streamStep_gamma (m g : List Byte) :
    (chain (streamStep ks next) (chunks 16 m) g).2 = next^[(m.length + 15) / 16] g := by
  induction m using chunks_induction (n := 16) (by decide) generalizing g with
  | nil => rfl
  | piece m hm ih =>
    have hpos := List.length_pos_of_ne_nil hm
    have hcount : (m.length + 15) / 16 = ((m.drop 16).length + 15) / 16 + 1 := by
      rw [List.length_drop]; omega
    rw [chunks_of_ne_nil (by decide) hm, hcount, Function.iterate_succ_apply]
    exact ih (next g)

/-- Byte `j` of the output: the message's byte XOR its byte of the keystream. -/
theorem chain_streamStep_getD (hks : ∀ g, (ks g).length = 16) (m g : List Byte) {j : Nat}
    (hj : j < m.length) :
    (chain (streamStep ks next) (chunks 16 m) g).1.getD j 0 =
      m.getD j 0 ^^^ (ks (next^[j / 16] g)).getD (j % 16) 0 := by
  induction m using chunks_induction (n := 16) (by decide) generalizing g j with
  | nil => exact absurd hj (Nat.not_lt_zero j)
  | piece m hm ih =>
    simp only [chunks_of_ne_nil (show 0 < 16 by decide) hm, chain_cons, streamStep]
    by_cases hfirst : j < 16
    case pos =>
      have htake : j < (m.take 16).length := by rw [List.length_take]; omega
      have hlen : j < (xorBytes (m.take 16) (ks g)).length := by
        rw [xorBytes_length, hks]; exact lt_min htake hfirst
      rw [List.getD_append _ _ _ _ hlen, xorBytes_getD htake ((hks g).symm ▸ hfirst),
        Nat.div_eq_of_lt hfirst, Nat.mod_eq_of_lt hfirst]
      simp [List.getD, hfirst]
    case neg =>
      obtain ⟨k, rfl⟩ := Nat.exists_eq_add_of_le (Nat.le_of_not_lt hfirst)
      have hlen : (xorBytes (m.take 16) (ks g)).length = 16 := by
        rw [xorBytes_length, hks, List.length_take]; omega
      have hk : k < (m.drop 16).length := by rw [List.length_drop]; omega
      rw [List.getD_append_right _ _ _ _ (by omega), hlen, Nat.add_sub_cancel_left, ih (next g) hk,
        Nat.add_div_left _ (by decide), Nat.add_mod_left, Function.iterate_succ_apply]
      simp [List.getD]

end

/-! ### The loop backwards -/

/-- A loop that undoes another, step by step, gives its pieces back and goes through the same gammas. -/
theorem chain_undo {f f' : List Byte → List Byte → List Byte × List Byte} {n : Nat} (hn : 0 < n)
    {P : List Byte → Prop} (m : List Byte)
    (hstep : ∀ b ∈ chunks n m, ∀ g, P g →
      (f b g).1.length = b.length ∧ f' (f b g).1 g = (b, (f b g).2) ∧ P (f b g).2)
    (g : List Byte) (hg : P g) :
    chain f' (chunks n (chain f (chunks n m) g).1) g = (m, (chain f (chunks n m) g).2) := by
  induction m using chunks_induction hn generalizing g with
  | nil => rfl
  | piece m hm ih =>
    obtain ⟨c, g', hf⟩ : ∃ c g', f (m.take n) g = (c, g') := ⟨_, _, rfl⟩
    rw [chunks_of_ne_nil hn hm] at hstep ⊢
    obtain ⟨hfirst, hrest⟩ := List.forall_mem_cons.mp hstep
    obtain ⟨hlen, hback, hg'⟩ := hfirst g hg
    simp only [hf, List.length_take] at hlen hback hg'
    have hne : c ≠ [] := by
      have hpos := List.length_pos_of_ne_nil hm
      exact List.ne_nil_of_length_pos (by omega)
    have hlast : c.length < n → (chain f (chunks n (m.drop n)) g').1 = [] := by
      intro hlt
      rw [List.drop_eq_nil_of_le (by omega), chunks_nil, chain_nil]
    rw [chain_cons, hf, chunks_append_of_first hn hne (by omega) hlast, chain_cons, hback,
      ih hrest g' hg', List.take_append_drop]

/-- A stream mode undoes itself. -/
theorem streamStep_undo {ks next : List Byte → List Byte} (hks : ∀ g, (ks g).length = 16)
    (m g : List Byte) :
    chain (streamStep ks next) (chunks 16 (chain (streamStep ks next) (chunks 16 m) g).1) g =
      (m, (chain (streamStep ks next) (chunks 16 m) g).2) := by
  refine chain_undo (P := fun _ => True) (by decide) m (fun b hb g _ => ?_) g trivial
  have hle : b.length ≤ (ks g).length := (chunks_mem_length_le b hb).trans (hks g).ge
  exact ⟨by simp [streamStep, hle], by simp [streamStep, xorBytes_cancel_of_le hle], trivial⟩

theorem ctrApply_ctrApply (E : Block → Block) (m g : List Byte) :
    ctrApply E (ctrApply E m g).1 g = (m, (ctrApply E m g).2) :=
  streamStep_undo (onSlice_length E) m g

theorem ofbApply_ofbApply (E : Block → Block) (m g : List Byte) :
    ofbApply E (ofbApply E m g).1 g = (m, (ofbApply E m g).2) :=
  streamStep_undo (fun _ => onSlice_length E _) m g

/-- One block of Cbc undone: the ciphertext deciphers to the block XOR the gamma's head. -/
theorem cbcDecStep_cbcEncStep {D E : Block → Block} (h : Function.LeftInverse D E) {b g : List Byte}
    (hb : b.length = 16) (hg : 16 ≤ g.length) :
    cbcDecStep D (cbcEncStep E b g).1 g = (b, (cbcEncStep E b g).2) := by
  have hle : b.length ≤ (g.take 16).length := by rw [List.length_take]; omega
  rw [cbcDecStep, cbcEncStep, onSlice_onSlice h (by simp [hb, hg]), xorBytes_cancel_of_le hle]

/-- `cbc_dec` gives back what `cbc_enc` took (45_modes_cbc_cfb.md R241). -/
theorem cbcDec_cbcEnc {D E : Block → Block} (h : Function.LeftInverse D E) (r : UnpadRule)
    (m : List Byte) {g : List Byte} (hg : 16 ≤ g.length) :
    cbcDec r D (cbcEnc E m g).1 g = (m, (cbcEnc E m g).2) := by
  have hundo := chain_undo (f := cbcEncStep E) (f' := cbcDecStep D) (P := fun g => 16 ≤ g.length)
    (by decide : 0 < 16) (pad m 16) (fun b hb g hg => ?_) g hg
  · rw [cbcDec, cbcEnc, hundo, unpad_pad]
  · have hb := chunks_mem_length (by decide) (pad_length_mod (by decide) m) b hb
    refine ⟨(onSlice_length E _).trans hb.symm, cbcDecStep_cbcEncStep h hb hg, ?_⟩
    exact (shift_length hg (onSlice_length E _)).ge.trans' hg

/-! ### Two blocks deep: the register of Ofb -/

/-- Block `k` of the Ofb register that starts as `g`; `iterate_ofbNext` ties it to the gamma. -/
def ofbBlock (E : Block → Block) (g : List Byte) : Nat → List Byte
  | 0 => slice g 0 16
  | 1 => slice g 16 16
  | k + 2 => onSlice E (ofbBlock E g k)

theorem ofbBlock_length (E : Block → Block) {g : List Byte} (hg : g.length = 32) :
    ∀ k, (ofbBlock E g k).length = 16
  | 0 | 1 => by simp [ofbBlock, slice, hg]
  | _ + 2 => onSlice_length E _

/-- The gamma after `k` blocks is two blocks of the register. -/
theorem iterate_ofbNext (E : Block → Block) {g : List Byte} (hg : g.length = 32) (k : Nat) :
    (ofbNext E)^[k] g = ofbBlock E g k ++ ofbBlock E g (k + 1) := by
  induction k with
  | zero =>
    have hrest : (g.drop 16).take 16 = g.drop 16 := List.take_of_length_le (by simp [hg])
    simp [ofbBlock, slice, hrest]
  | succ k ih =>
    rw [Function.iterate_succ_apply', ih, ofbNext, List.drop_left' (ofbBlock_length E hg k),
      List.take_left' (ofbBlock_length E hg k), ofbBlock]

/-! ### The commands -/

theorem modeEncrypt_of_ecb {s : State} (h : s.mode = .ecb) :
    modeEncrypt s = (ecbEnc (encBlock s.mrk) s.message, s.gamma) := by simp [modeEncrypt, h]

theorem modeDecrypt_of_ecb {s : State} (h : s.mode = .ecb) :
    modeDecrypt s = (ecbDec s.build.unpadRule (decBlock s.mrk) s.message, s.gamma) := by
  simp [modeDecrypt, h]

theorem modeEncrypt_of_ctr {s : State} (h : s.mode = .ctr) :
    modeEncrypt s = ctrApply (encBlock s.mrk) s.message s.gamma := by simp [modeEncrypt, h]

theorem modeEncrypt_of_ofb {s : State} (h : s.mode = .ofb) :
    modeEncrypt s = ofbApply (encBlock s.mrk) s.message s.gamma := by simp [modeEncrypt, h]

theorem modeEncrypt_of_cbc {s : State} (h : s.mode = .cbc) :
    modeEncrypt s = cbcEnc (encBlock s.mrk) s.message s.gamma := by simp [modeEncrypt, h]

theorem modeDecrypt_of_cbc {s : State} (h : s.mode = .cbc) :
    modeDecrypt s = cbcDec s.build.unpadRule (decBlock s.mrk) s.message s.gamma := by
  simp [modeDecrypt, h]

/-- In the two stream modes decryption is encryption. -/
theorem modeDecrypt_of_stream {s : State} (h : s.mode = .ctr ∨ s.mode = .ofb) :
    modeDecrypt s = modeEncrypt s := by
  rcases h with hm | hm <;> simp [modeDecrypt, modeEncrypt, hm]

theorem gammaReady_of_ecb {s : State} (hm : s.mode = .ecb) : gammaReady s := by
  simp [gammaReady, hm]

theorem gammaReady_of_ofb {s : State} (hm : s.mode = .ofb) (hg : s.glen = 32) : gammaReady s := by
  simp [gammaReady, hm, hg]

/-- In Ecb and Cbc `MDEC` asks for whole blocks, in the two stream modes for nothing. -/
theorem wholePieces_of_blocks {s : State} (hcfb : s.mode ≠ .cfb)
    (h : s.mode = .ecb ∨ s.mode = .cbc → s.ilen % 16 = 0) : wholePieces s :=
  ⟨fun hm => h (.inl hm), fun hm => h (.inr hm), fun hm => absurd hm hcfb⟩

/-- Both commands of a stream mode do what `MENC` does. -/
theorem exec_streamCommand {s : State} {i : Instr} (hs : idle s) (hi : s.miv = true) (hg : gammaReady s)
    (hm : s.mode = .ctr ∨ s.mode = .ofb) (hij : i = .menc ∨ i = .mdec) :
    exec i s = .next ((s.setGamma (modeEncrypt s).2).output (modeEncrypt s).1) := by
  have hmac : s.mode ≠ .mac := by rcases hm with hm | hm <;> simp [hm]
  rcases hij with rfl | rfl
  · exact exec_menc_performs hs hi hg (absurd · hmac)
  · rw [exec_mdec_performs hs hi hmac hg (wholePieces_of_blocks ?_ ?_), modeDecrypt_of_stream hm]
    · rcases hm with hm | hm <;> simp [hm]
    · rcases hm with hm | hm <;> simp [hm]

/-- Settles O44: both commands pass their checks, and a block function on whole blocks acts on each by
itself. -/
theorem ecbTreatsEachBlockByItself : Obligations.EcbTreatsEachBlockByItself := by
  rintro s ⟨hs, hi, hm⟩
  have hg := gammaReady_of_ecb hm
  constructor
  case left =>
    have hlen : (pad s.message 16).length = 16 * paddedBlocks s.ilen := by
      rw [pad_length_eq_mul (by decide), message_length, paddedBlocks]
    refine ⟨_, exec_menc_performs hs hi hg (by simp [hm]), ?_, ?_, fun k hk => ?_⟩
    · rw [modeEncrypt_of_ecb hm]; rfl
    · rw [modeEncrypt_of_ecb hm, State.olen, State.output_obuf, Memory.ofBytes_length,
        ecbEnc_output_length, message_length, paddedBlocks]
    · rw [modeEncrypt_of_ecb hm, State.output_obuf, Memory.ofBytes_bytes]
      exact slice_map_onSlice_flatten _ (pad_length_mod (by decide) _) (by omega)
  case right =>
    intro hblocks
    have hlen : s.message.length % 16 = 0 := by rw [message_length, hblocks]
    refine ⟨_, ((chunks 16 s.message).map (onSlice (decBlock s.mrk))).flatten,
      exec_mdec_performs hs hi (by simp [hm]) hg (wholePieces_of_blocks (by simp [hm]) fun _ => hblocks),
      ?_, ?_, ?_, fun k hk => ?_⟩
    · rw [modeDecrypt_of_ecb hm]; rfl
    · rw [map_onSlice_flatten_length _ hlen, message_length]
    · rw [modeDecrypt_of_ecb hm, State.output_obuf, Memory.ofBytes_bytes, ecbDec]
    · exact slice_map_onSlice_flatten _ hlen (by rwa [message_length])

/-- Settles O45: the keystream is the encrypted counter, and `k` increments of the gamma add `k`. -/
theorem ctrEncryptsAnIncreasingCounter : Obligations.CtrEncryptsAnIncreasingCounter := by
  rintro s i ⟨hs, hi, hm⟩ hg hij
  have hlen : s.gamma.length = 16 := hg
  have hrange : 256 ^ 16 = 2 ^ 128 := by norm_num
  have hcounter (k : Nat) : ctrInc^[k] s.gamma = bytesBE 16 ((be s.gamma + k) % 2 ^ 128) := by
    rw [iterate_ctrInc, hlen, hrange]
  refine ⟨_, exec_streamCommand hs hi (gammaReady_of_ctr hm hg) (.inl hm) hij, rfl, ?_, ?_, ?_,
    fun j hj => ?_⟩
  all_goals rw [modeEncrypt_of_ctr hm]
  · rw [State.olen, State.output_obuf, Memory.ofBytes_length, ctrApply_output_length, message_length]
  · exact (ctrApply_gamma_length _ _ _).trans hlen
  · rw [State.output_gamma, State.setGamma_gamma, ctrApply, ctrStep_eq, chain_streamStep_gamma,
      message_length, hcounter, be_bytesBE, hrange, Nat.mod_mod]
  · rw [State.output_obuf, Memory.ofBytes_bytes, ctrApply, ctrStep_eq,
      chain_streamStep_getD (onSlice_length _) _ _ (by rwa [message_length]), hcounter]
    rfl

/-- Settles O46: the register's blocks are `ofbBlock`, and the gamma is always two of them. -/
theorem ofbShiftsTheKeystreamAlone : Obligations.OfbShiftsTheKeystreamAlone := by
  rintro s i ⟨hs, hi, hm⟩ hg hij
  have hlen : s.gamma.length = 32 := hg
  have hgamma := iterate_ofbNext (encBlock s.mrk) hlen
  refine ⟨_, exec_streamCommand hs hi (gammaReady_of_ofb hm hg) (.inr hm) hij, rfl, ?_,
    ofbBlock (encBlock s.mrk) s.gamma, rfl, rfl, fun _ => rfl, ?_, fun j hj => ?_⟩
  all_goals rw [modeEncrypt_of_ofb hm]
  · rw [State.olen, State.output_obuf, Memory.ofBytes_length, ofbApply_output_length, message_length]
  · rw [State.output_gamma, State.setGamma_gamma, ofbApply, ofbStep_eq, chain_streamStep_gamma,
      message_length, hgamma]
  · rw [State.output_obuf, Memory.ofBytes_bytes, ofbApply, ofbStep_eq,
      chain_streamStep_getD (fun _ => onSlice_length _ _) _ _ (by rwa [message_length]), hgamma,
      List.take_left' (ofbBlock_length _ hlen _)]
    rfl

/-! ### Decrypting what was encrypted -/

/-- The state after `MENC` in which the host has given the ciphertext back as input and reset the gamma:
the gamma is the one before `MENC`. -/
def State.returned (s : State) : State := (s.output (modeEncrypt s).1).setInput (modeEncrypt s).1

@[simp] theorem State.returned_message (s : State) : s.returned.message = (modeEncrypt s).1 :=
  Memory.ofBytes_bytes _

/-- Decryption gives back the message and takes the gamma where encryption took it. -/
theorem modeDecrypt_returned {s : State} (hg : gammaReady s) (hcfb : s.mode ≠ .cfb)
    (hmac : s.mode ≠ .mac) :
    modeDecrypt s.returned = (s.message, (modeEncrypt s).2) := by
  have hinv : Function.LeftInverse (decBlock s.mrk) (encBlock s.mrk) := decBlock_encBlock s.mrk
  obtain ⟨-, -, hcbc, -⟩ := hg
  cases hm : s.mode with
  | ecb =>
    rw [modeDecrypt_of_ecb (s := s.returned) hm, State.returned_message, modeEncrypt_of_ecb hm]
    exact congrArg (·, s.gamma) (ecbDec_ecbEnc hinv _ _)
  | ctr =>
    rw [modeDecrypt_of_stream (s := s.returned) (.inl hm), modeEncrypt_of_ctr (s := s.returned) hm,
      State.returned_message, modeEncrypt_of_ctr hm]
    exact ctrApply_ctrApply _ _ _
  | ofb =>
    rw [modeDecrypt_of_stream (s := s.returned) (.inr hm), modeEncrypt_of_ofb (s := s.returned) hm,
      State.returned_message, modeEncrypt_of_ofb hm]
    exact ofbApply_ofbApply _ _ _
  | cbc =>
    rw [modeDecrypt_of_cbc (s := s.returned) hm, State.returned_message, modeEncrypt_of_cbc hm]
    exact cbcDec_cbcEnc hinv _ _ (hcbc hm)
  | cfb => exact absurd hm hcfb
  | mac => exact absurd hm hmac

/-- What Ecb and Cbc encrypt to is whole blocks. -/
theorem modeEncrypt_output_blocks {s : State} (h : s.mode = .ecb ∨ s.mode = .cbc) :
    (modeEncrypt s).1.length % 16 = 0 := by
  rcases h with hm | hm
  · rw [modeEncrypt_of_ecb hm, ecbEnc_output_length, Nat.mul_mod_right]
  · rw [modeEncrypt_of_cbc hm, cbcEnc_output_length, Nat.mul_mod_right]

/-- Settles O51: both commands pass their checks, and each mode's decryption undoes its encryption. -/
theorem modesDecryptWhatTheyEncrypt : Obligations.ModesDecryptWhatTheyEncrypt := by
  intro s hs hi hg hcfb hmac
  have hw : wholePieces s.returned := wholePieces_of_blocks hcfb fun hm => by
    rw [← message_length, State.returned_message]
    exact modeEncrypt_output_blocks hm
  refine ⟨_, _, exec_menc_performs hs hi hg (absurd · hmac),
    exec_mdec_performs (s := s.returned) hs hi hmac hg hw, hs, ?_, ?_⟩
  all_goals rw [modeDecrypt_returned hg hcfb hmac]
  · exact Memory.ofBytes_bytes _
  · rfl

end Sys2Proof.Machine
end

section
/-!
PROOFS. The two modes of 45_modes_cbc_cfb.md: their commands read and extend one window, the gamma
followed by the ciphertext, and Cfb gives back what unpadding leaves of the message it encrypted.
-/

namespace Sys2Proof.Machine

open Sys2Proof.Spec

/-! ### The window -/

/-- Which of the two strings of a step, the one taken or the one given, is ciphertext. -/
def ciphertextOf (decrypts : Bool) (taken given : List Byte) : List Byte :=
  if decrypts then taken else given

theorem ciphertextOf_nil (d : Bool) : ciphertextOf d [] [] = [] := by cases d <;> rfl

theorem ciphertextOf_append (d : Bool) (b m c out : List Byte) :
    ciphertextOf d (b ++ m) (c ++ out) = ciphertextOf d b c ++ ciphertextOf d m out := by
  cases d <;> rfl

/-- One step over pieces of `n` bytes that gives `F` of the piece and the gamma's head, and shifts the
ciphertext into the gamma; the four equations below tie it to the modes. -/
def windowStep (d : Bool) (F : List Byte → List Byte → List Byte) (n : Nat) (b g : List Byte) :
    List Byte × List Byte :=
  (F b (g.take 16), g.drop n ++ ciphertextOf d b (F b (g.take 16)))

/-- A block of Cbc encrypted, with the sixteen bytes of the window before it. -/
def cbcEncPiece (E : Block → Block) (b h : List Byte) : List Byte := onSlice E (xorBytes b h)

/-- A block of Cbc decrypted. -/
def cbcDecPiece (D : Block → Block) (b h : List Byte) : List Byte := xorBytes (onSlice D b) h

/-- A segment of Cfb, in both directions. -/
def cfbPiece (E : Block → Block) (n : Nat) (b h : List Byte) : List Byte :=
  xorBytes b ((onSlice E h).take n)

theorem cbcEncStep_eq (E : Block → Block) : cbcEncStep E = windowStep false (cbcEncPiece E) 16 := rfl

theorem cbcDecStep_eq (D : Block → Block) : cbcDecStep D = windowStep true (cbcDecPiece D) 16 := rfl

theorem cfbEncStep_eq (E : Block → Block) (n : Nat) :
    cfbEncStep E n = windowStep false (cfbPiece E n) n := rfl

theorem cfbDecStep_eq (E : Block → Block) (n : Nat) :
    cfbDecStep E n = windowStep true (cfbPiece E n) n := rfl

theorem cbcDecPiece_length (D : Block → Block) {b h : List Byte} (hh : h.length = 16) :
    (cbcDecPiece D b h).length = 16 := by simp [cbcDecPiece, hh]

theorem cfbPiece_length (E : Block → Block) {n : Nat} (hn : n ≤ 16) {b : List Byte}
    (hb : b.length ≤ n) (h : List Byte) : (cfbPiece E n b h).length = b.length := by
  simp only [cfbPiece, xorBytes_length, List.length_take, onSlice_length]
  omega

/-- A piece further on is a piece of what is left behind the first. -/
theorem slice_mul_succ (v : List Byte) (n k j : Nat) :
    slice v (n * (k + 1)) j = slice (v.drop n) (n * k) j := by
  rw [slice, slice, List.drop_drop, Nat.mul_succ, Nat.add_comm]

/-- What a loop over pieces of `n` bytes gives when its piece `k` is `F` of the message's piece `k` and of
the sixteen bytes of the window from `n * k` on; the window is the gamma followed by `w`, and its tail
is the gamma afterwards. -/
structure WindowRun (F : List Byte → List Byte → List Byte) (n : Nat) (g w m out g' : List Byte) :
    Prop where
  length : out.length = m.length
  gamma : g' = (g ++ w).drop m.length
  piece : ∀ k, k < m.length / n →
    slice out (n * k) n = F (slice m (n * k) n) (slice (g ++ w) (n * k) 16)

section
variable {F : List Byte → List Byte → List Byte} {n : Nat}

theorem WindowRun.nil (g : List Byte) : WindowRun F n g [] [] [] g :=
  ⟨rfl, (List.append_nil g).symm, fun k hk => by simp at hk⟩

/-- One piece in front: its ciphertext `c` slides into the window. -/
theorem WindowRun.cons {g c w b m out g' : List Byte} (hn : 0 < n) (hn16 : n ≤ 16) (hg : 16 ≤ g.length)
    (hb : b.length = n) (hF : (F b (g.take 16)).length = n)
    (h : WindowRun F n (g.drop n ++ c) w m out g') :
    WindowRun F n g (c ++ w) (b ++ m) (F b (g.take 16) ++ out) g' := by
  have hslide : (g ++ (c ++ w)).drop n = g.drop n ++ c ++ w := by
    rw [List.drop_append_of_le_length (hn16.trans hg), List.append_assoc]
  refine ⟨?length, ?gamma, fun k hk => ?piece⟩
  case length => rw [List.length_append, List.length_append, hF, hb, h.length]
  case gamma => rw [h.gamma, ← hslide, List.drop_drop, List.length_append, hb]
  case piece =>
    cases k with
    | zero =>
      simp only [slice, Nat.mul_zero, List.drop_zero]
      rw [List.take_left' hF, List.take_left' hb, List.take_append_of_le_length hg]
    | succ k =>
      have hk : k < m.length / n := by
        rw [List.length_append, hb, Nat.add_div_left _ hn] at hk
        exact Nat.lt_of_succ_lt_succ hk
      simp only [slice_mul_succ, hslide, List.drop_left' hF, List.drop_left' hb]
      exact h.piece k hk

/-- The loop of a mode with a window, over whole pieces. -/
theorem windowRun_chain_pieces (d : Bool) (hn : 0 < n) (hn16 : n ≤ 16)
    (hF : ∀ b h, b.length = n → h.length = 16 → (F b h).length = n) :
    ∀ {bs : List (List Byte)} {g : List Byte}, (∀ b ∈ bs, b.length = n) → 16 ≤ g.length →
      WindowRun F n g (ciphertextOf d bs.flatten (chain (windowStep d F n) bs g).1) bs.flatten
        (chain (windowStep d F n) bs g).1 (chain (windowStep d F n) bs g).2
  | [], g, _, _ => by
    rw [chain_nil, List.flatten_nil, ciphertextOf_nil]
    exact WindowRun.nil g
  | b :: bs, g, h, hg => by
    obtain ⟨hb, hbs⟩ := List.forall_mem_cons.mp h
    have hlen : (F b (g.take 16)).length = n := hF b _ hb (by simp [hg])
    have hc : (ciphertextOf d b (F b (g.take 16))).length = n := by cases d <;> assumption
    have hg' : 16 ≤ (windowStep d F n b g).2.length := (shift_length (hn16.trans hg) hc).ge.trans' hg
    rw [chain_cons, List.flatten_cons, ciphertextOf_append]
    exact (windowRun_chain_pieces d hn hn16 hF hbs hg').cons hn hn16 hg hb hlen

/-- The loop of a mode with a window, over a message of whole pieces. -/
theorem windowRun_chain (d : Bool) (hn : 0 < n) (hn16 : n ≤ 16)
    (hF : ∀ b h, b.length = n → h.length = 16 → (F b h).length = n) {m g : List Byte}
    (hm : m.length % n = 0) (hg : 16 ≤ g.length) :
    WindowRun F n g (ciphertextOf d m (chain (windowStep d F n) (chunks n m) g).1) m
      (chain (windowStep d F n) (chunks n m) g).1 (chain (windowStep d F n) (chunks n m) g).2 := by
  simpa only [chunks_flatten hn] using
    windowRun_chain_pieces d hn hn16 hF (chunks_mem_length hn hm) hg

end

/-! ### The modes' loops in the window -/

theorem cbcEnc_windowRun (E : Block → Block) (m : List Byte) {g : List Byte} (hg : 16 ≤ g.length) :
    WindowRun (cbcEncPiece E) 16 g (cbcEnc E m g).1 (pad m 16) (cbcEnc E m g).1 (cbcEnc E m g).2 :=
  windowRun_chain false (by decide) le_rfl (fun _ _ _ _ => onSlice_length E _)
    (pad_length_mod (by decide) m) hg

theorem cbcDec_windowRun (D : Block → Block) {c g : List Byte} (hc : c.length % 16 = 0)
    (hg : 16 ≤ g.length) :
    WindowRun (cbcDecPiece D) 16 g c c (chain (cbcDecStep D) (chunks 16 c) g).1
      (chain (cbcDecStep D) (chunks 16 c) g).2 :=
  windowRun_chain true (by decide) le_rfl (fun _ _ _ hh => cbcDecPiece_length D hh) hc hg

theorem cfbEnc_windowRun (E : Block → Block) {n : Nat} (hn : 1 ≤ n ∧ n ≤ 16) (m : List Byte)
    {g : List Byte} (hg : 16 ≤ g.length) :
    WindowRun (cfbPiece E n) n g (cfbEnc E n m g).1 (cfbPlain n m) (cfbEnc E n m g).1
      (cfbEnc E n m g).2 :=
  windowRun_chain false hn.1 hn.2 (fun _ h hb _ => (cfbPiece_length E hn.2 hb.le h).trans hb)
    (cfbPlain_length_mod hn.1 m) hg

theorem cfbDec_windowRun (E : Block → Block) {n : Nat} (hn : 1 ≤ n ∧ n ≤ 16) {c g : List Byte}
    (hc : c.length % n = 0) (hg : 16 ≤ g.length) :
    WindowRun (cfbPiece E n) n g c c (chain (cfbDecStep E n) (chunks n c) g).1
      (chain (cfbDecStep E n) (chunks n c) g).2 :=
  windowRun_chain true hn.1 hn.2 (fun _ h hb _ => (cfbPiece_length E hn.2 hb.le h).trans hb) hc hg

/-! ### The commands -/

theorem modeEncrypt_of_cfb {s : State} (h : s.mode = .cfb) :
    modeEncrypt s = cfbEnc (encBlock s.mrk) s.seg s.message s.gamma := by simp [modeEncrypt, h]

theorem modeDecrypt_of_cfb {s : State} (h : s.mode = .cfb) :
    modeDecrypt s = cfbDec s.build.unpadRule (encBlock s.mrk) s.seg s.message s.gamma := by
  simp [modeDecrypt, h]

theorem gammaReady_of_cbc {s : State} (hm : s.mode = .cbc) (hg : 16 ≤ s.glen) : gammaReady s := by
  simp [gammaReady, hm, hg]

theorem gammaReady_of_cfb {s : State} (hm : s.mode = .cfb) (hg : 16 ≤ s.glen)
    (hseg : s.glen % s.seg = 0) : gammaReady s := by
  simp [gammaReady, hm, hg, hseg]

/-- In Cfb `MDEC` asks for whole segments. -/
theorem wholePieces_of_segments {s : State} (hm : s.mode = .cfb) (h : s.ilen % s.seg = 0) :
    wholePieces s := by
  simp [wholePieces, hm, h]

/-- Settles O47: both commands pass their checks and run through the window, block by block. -/
theorem cbcChainsThroughTheWindow : Obligations.CbcChainsThroughTheWindow := by
  rintro s ⟨hs, hi, hm⟩ hglen
  have hg := gammaReady_of_cbc hm hglen
  constructor
  case left =>
    have hrun := cbcEnc_windowRun (encBlock s.mrk) s.message hglen
    have hlen : (pad s.message 16).length = 16 * paddedBlocks s.ilen := by
      rw [pad_length_eq_mul (by decide), message_length, paddedBlocks]
    refine ⟨_, (cbcEnc (encBlock s.mrk) s.message s.gamma).1,
      exec_menc_performs hs hi hg (by simp [hm]), rfl, ?_, hrun.length.trans hlen, ?_, fun k hk => ?_⟩
    · rw [modeEncrypt_of_cbc hm, State.output_obuf, Memory.ofBytes_bytes]
    · rw [modeEncrypt_of_cbc hm, hrun.length]
      exact hrun.gamma
    · exact hrun.piece k (by omega)
  case right =>
    intro hblocks
    have hlen := message_length s
    have hrun := cbcDec_windowRun (decBlock s.mrk) (hlen.symm ▸ hblocks) hglen
    refine ⟨_, (chain (cbcDecStep (decBlock s.mrk)) (chunks 16 s.message) s.gamma).1,
      exec_mdec_performs hs hi (by simp [hm]) hg (wholePieces_of_blocks (by simp [hm]) fun _ => hblocks),
      rfl, hrun.length.trans hlen, ?_, ?_, fun k hk => ?_⟩
    · rw [modeDecrypt_of_cbc hm, State.output_obuf, Memory.ofBytes_bytes, cbcDec]
    · rw [modeDecrypt_of_cbc hm, ← hlen]
      exact hrun.gamma
    · exact hrun.piece k (by rwa [hlen])

/-- Settles O48: both commands pass their checks and run through the window, segment by segment. -/
theorem cfbFeedsBackTheCiphertext : Obligations.CfbFeedsBackTheCiphertext := by
  rintro s ⟨hs, hi, hm⟩ hglen hwhole ⟨hseg1, hseg16, -⟩
  have hg := gammaReady_of_cfb hm hglen hwhole
  have hlen := message_length s
  constructor
  case left =>
    have hrun := cfbEnc_windowRun (encBlock s.mrk) ⟨hseg1, hseg16⟩ s.message hglen
    refine ⟨_, cfbPlain s.seg s.message, (cfbEnc (encBlock s.mrk) s.seg s.message s.gamma).1,
      exec_menc_performs hs hi hg (by simp [hm]), rfl, fun h => ?_, fun h => ?_, ?_, hrun.length, ?_,
      hrun.piece⟩
    · exact if_pos (by rwa [hlen])
    · exact if_neg (by rwa [hlen])
    · rw [modeEncrypt_of_cfb hm, State.output_obuf, Memory.ofBytes_bytes]
    · rw [modeEncrypt_of_cfb hm, hrun.length]
      exact hrun.gamma
  case right =>
    intro hsegs
    have hrun := cfbDec_windowRun (encBlock s.mrk) ⟨hseg1, hseg16⟩ (hlen.symm ▸ hsegs) hglen
    refine ⟨_, (chain (cfbDecStep (encBlock s.mrk) s.seg) (chunks s.seg s.message) s.gamma).1,
      exec_mdec_performs hs hi (by simp [hm]) hg (wholePieces_of_segments hm hsegs), rfl,
      hrun.length.trans hlen, ?_, ?_, fun k hk => ?_⟩
    · rw [modeDecrypt_of_cfb hm, State.output_obuf, Memory.ofBytes_bytes, cfbDec]
    · rw [modeDecrypt_of_cfb hm, ← hlen]
      exact hrun.gamma
    · exact hrun.piece k (by rwa [hlen])

/-! ### Decrypting what Cfb encrypted -/

/-- One segment of Cfb undone: the gamma's head gives the same keystream in both directions. -/
theorem cfbDecStep_cfbEncStep (E : Block → Block) {n : Nat} (hn : n ≤ 16) {b : List Byte}
    (hb : b.length ≤ n) (g : List Byte) :
    cfbDecStep E n (cfbEncStep E n b g).1 g = (b, (cfbEncStep E n b g).2) := by
  have hle : b.length ≤ ((onSlice E (g.take 16)).take n).length := by
    rw [List.length_take, onSlice_length, min_eq_left hn]; exact hb
  rw [cfbDecStep, cfbEncStep, xorBytes_cancel_of_le hle]

/-- `cfb_dec` gives back what unpadding leaves of what `cfb_enc` encrypted (45_modes_cbc_cfb.md R243). -/
theorem cfbDec_cfbEnc (E : Block → Block) {n : Nat} (hn : 1 ≤ n ∧ n ≤ 16) (r : UnpadRule)
    (m g : List Byte) :
    cfbDec r E n (cfbEnc E n m g).1 g = (unpad r (cfbPlain n m), (cfbEnc E n m g).2) := by
  have hundo := chain_undo (f := cfbEncStep E n) (f' := cfbDecStep E n) (P := fun _ => True) hn.1
    (cfbPlain n m) (fun b hb g _ => ?_) g trivial
  · rw [cfbDec, cfbEnc, hundo]
  · have hb := chunks_mem_length_le b hb
    exact ⟨cfbPiece_length E hn.2 hb _, cfbDecStep_cfbEncStep E hn.2 hb g, trivial⟩

/-- Where the scan reaches a mark, something is cut. -/
theorem unpad_mark_ne_self {r : UnpadRule} (u : List Byte) {v : List Byte}
    (hv : ∀ b ∈ v, skipped r b = true) : unpad r (u ++ 0x80 :: v) ≠ u ++ 0x80 :: v := by
  rw [unpad_mark u hv]
  simp

/-- Exactly the messages that survive the scan come back from it whole. -/
theorem unpad_eq_self_iff {r : UnpadRule} {m : List Byte} : unpad r m = m ↔ survivesUnpad r m := by
  cases r with
  | lastAnywhere =>
    refine ⟨fun h hmark => ?_, fun h => unpad_eq_self_of_no_mark h _⟩
    rcases all_skipped_or_stop .lastAnywhere m with hall | ⟨u, c, v, rfl, hc, hv⟩
    · exact absurd ((skipped_mark _).symm.trans (hall _ hmark)) Bool.false_ne_true
    · obtain rfl : c = 0x80 := by simpa [skipped, Config.padMark] using hc
      exact unpad_mark_ne_self u hv h
  | zerosThenMark =>
    refine ⟨?_, unpad_zerosThenMark_eq_self⟩
    rintro h u n rfl
    exact unpad_mark_ne_self u (skipped_of_mem_zeros _) h

/-- What Cfb encrypts comes back whole when it was padded, or survives the scan. -/
theorem unpad_cfbPlain_eq_iff (r : UnpadRule) (n : Nat) (m : List Byte) :
    unpad r (cfbPlain n m) = m ↔ m.length % n ≠ 0 ∨ survivesUnpad r m := by
  by_cases h : m.length % n = 0
  · simp [cfbPlain, h, unpad_eq_self_iff]
  · simp [cfbPlain, h, unpad_pad]

/-- Settles O52: both commands pass their checks, and decryption gives back the unpadded `cfbPlain`. -/
theorem cfbRoundTripExactlyWhenUnpaddingSpares :
    Obligations.CfbRoundTripExactlyWhenUnpaddingSpares := by
  rintro s ⟨hs, hi, hm⟩ hg ⟨hseg1, hseg16, -⟩
  have hmac : s.mode ≠ .mac := by simp [hm]
  have hback : modeDecrypt s.returned =
      (unpad s.build.unpadRule (cfbPlain s.seg s.message), (modeEncrypt s).2) := by
    rw [modeDecrypt_of_cfb (s := s.returned) hm, State.returned_message, modeEncrypt_of_cfb hm]
    exact cfbDec_cfbEnc _ ⟨hseg1, hseg16⟩ _ _ _
  have hw : wholePieces s.returned := wholePieces_of_segments hm (by
    rw [← message_length, State.returned_message, modeEncrypt_of_cfb hm,
      cfbEnc_output_length _ ⟨hseg1, hseg16⟩]
    exact cfbPlain_length_mod hseg1 _)
  refine ⟨_, _, exec_menc_performs hs hi hg (absurd · hmac),
    exec_mdec_performs (s := s.returned) hs hi hmac hg hw, hs, ?_, ?_⟩
  all_goals rw [hback]
  · rfl
  · rw [State.output_obuf, Memory.ofBytes_bytes, unpad_cfbPlain_eq_iff, message_length]

end Sys2Proof.Machine
end

section
/-!
PROOFS. The Mac mode (46_mode_mac.md): the doubling that gives the subkeys as arithmetic on the
big-endian value of a block (R270), and the tag as the last cipher output of the chain over the blocks
of the message (R272).
-/

namespace Sys2Proof.Machine

open Sys2Proof.Spec

/-! ### The shift of a byte string -/

/-- The bit that leaves the first byte of a string in a left shift, as a byte. -/
def topBit (l : List Byte) : Byte := l.headD 0 >>> 7

/-- A byte string shifted left by one bit as `gf128_double` does it: each byte takes the top bit of the
byte after it; `gf128Double_eq` ties it to the doubling. -/
def shiftLeft (l : List Byte) : List Byte :=
  List.zipWith (fun b c : Byte => b <<< 1 ||| c) l ((l.drop 1).map (fun b : Byte => b >>> 7) ++ [0])

theorem shiftLeft_cons (b : Byte) (bs : List Byte) :
    shiftLeft (b :: bs) = (b <<< 1 ||| topBit bs) :: shiftLeft bs := by
  cases bs <;> rfl

@[simp] theorem shiftLeft_length (l : List Byte) : (shiftLeft l).length = l.length := by
  cases l <;> simp [shiftLeft]

/-- The bit a byte takes in stands where its shift leaves a zero, so that nothing is lost. -/
theorem toNat_shift_carry (b c : Byte) :
    (b >>> 7).toNat * 256 + (b <<< 1 ||| c >>> 7).toNat = 2 * b.toNat + (c >>> 7).toNat := by
  have hdisjoint : b <<< 1 &&& c >>> 7 = 0 := by
    ext i hi
    by_cases h0 : i = 0
    · simp [h0]
    · simp [show 8 ≤ 7 + i by omega]
  rw [← BitVec.add_eq_or_of_and_eq_zero _ _ hdisjoint]
  bv_omega

/-- The shift doubles the big-endian value; the bit that leaves is its carry out of the range. -/
theorem be_shiftLeft (l : List Byte) :
    (topBit l).toNat * 256 ^ l.length + be (shiftLeft l) = 2 * be l := by
  induction l with
  | nil => rfl
  | cons b bs ih =>
    have hbyte : (topBit (b :: bs)).toNat * 256 + (b <<< 1 ||| topBit bs).toNat =
        2 * b.toNat + (topBit bs).toNat := toNat_shift_carry b (bs.headD 0)
    rw [shiftLeft_cons, be, be, shiftLeft_length, List.length_cons]
    linear_combination 256 ^ bs.length * hbyte + ih

theorem be_concat (l : List Byte) (b : Byte) : be (l ++ [b]) = 2 ^ 8 * be l + b.toNat := by
  rw [be_eq_leValue, be_eq_leValue, List.reverse_append, List.reverse_singleton, List.singleton_append,
    leValue_cons]
  ring

/-- An exclusive-or into the last byte is one into the value. -/
theorem be_concat_xor (l : List Byte) (b c : Byte) :
    be (l ++ [b ^^^ c]) = be (l ++ [b]) ^^^ c.toNat := by
  refine Nat.eq_of_testBit_eq fun i => ?_
  rw [Nat.testBit_xor, be_concat, be_concat, Nat.testBit_two_pow_mul_add _ (b ^^^ c).isLt,
    Nat.testBit_two_pow_mul_add _ b.isLt]
  by_cases hi : i < 8
  · simp [hi]
  · have hhigh : c.toNat.testBit i = false :=
      Nat.testBit_lt_two_pow (c.isLt.trans_le (Nat.pow_le_pow_right (by decide) (by omega)))
    simp [hi, hhigh]

/-! ### The doubling -/

/-- The bit that leaves is the most significant bit of the first byte (46_mode_mac.md R270). -/
theorem toNat_topBit (l : List Byte) : (topBit l).toNat = if (l.headD 0).msb then 1 else 0 := by
  simp only [topBit, BitVec.msb_eq_decide, decide_eq_true_eq]
  split <;> bv_omega

theorem be_block_lt (v : Block) : be v.toList < 2 ^ 128 := by
  simpa using be_lt v.toList

/-- The top bit of the first byte is the top bit of the value, and what the shift leaves is the double
modulo the range. -/
theorem be_shiftLeft_block (v : Block) :
    ((v.toList.headD 0).msb = true ↔ 2 ^ 127 ≤ be v.toList) ∧
      be (shiftLeft v.toList) = 2 * be v.toList % 2 ^ 128 := by
  have hdouble := be_shiftLeft v.toList
  have hlt := be_lt (shiftLeft v.toList)
  rw [shiftLeft_length] at hlt
  rw [toNat_topBit] at hdouble
  rw [Vector.length_toList, show 256 ^ 16 = 2 ^ 128 by norm_num] at hdouble hlt
  split at hdouble
  next h => exact ⟨iff_of_true h (by omega), by omega⟩
  next h => exact ⟨iff_of_false h (by omega), by omega⟩

/-- The doubling is the shift, with the reduction into the last byte when the top bit was 1. -/
theorem gf128Double_eq (v : Block) :
    gf128Double v = if (v.toList.headD 0).msb then
      blockOf ((shiftLeft v.toList).take 15 ++ [(shiftLeft v.toList).getD 15 0 ^^^ Config.macRed])
    else blockOf (shiftLeft v.toList) := rfl

theorem be_gf128Double_of_lt {v : Block} (h : be v.toList < 2 ^ 127) :
    be (gf128Double v).toList = 2 * be v.toList := by
  obtain ⟨hmsb, hshift⟩ := be_shiftLeft_block v
  rw [gf128Double_eq, if_neg (by rw [hmsb]; omega), blockOf_toList (by simp), hshift]
  omega

theorem be_gf128Double_of_ge {v : Block} (h : 2 ^ 127 ≤ be v.toList) :
    be (gf128Double v).toList = (2 * be v.toList % 2 ^ 128) ^^^ 0x87 := by
  obtain ⟨hmsb, hshift⟩ := be_shiftLeft_block v
  have hlast : (shiftLeft v.toList).take 15 ++ [(shiftLeft v.toList).getD 15 0] =
      shiftLeft v.toList := by
    rw [List.getD_eq_getElem _ _ (by simp), List.take_concat_get']
    exact List.take_of_length_le (by simp)
  rw [gf128Double_eq, if_pos (hmsb.mpr h), blockOf_toList (by simp), be_concat_xor, hlast, hshift]
  rfl

/-! ### Blocks by their values -/

theorem be_block {n : Nat} (h : n < 2 ^ 128) : be (block n).toList = n := by
  rw [block, blockOf_toList (by simp), be_bytesBE, Nat.mod_eq_of_lt (by omega)]

/-- A block is the block of its value. -/
theorem eq_block_of_be {v : Block} {n : Nat} (h : be v.toList = n) : v = block n :=
  block_ext (eq_of_be_eq (by simp) (by rw [h, be_block (h ▸ be_block_lt v)]))

theorem gf128Double_block_of_lt {n : Nat} (h : n < 2 ^ 127) :
    gf128Double (block n) = block (2 * n) := by
  have hn := be_block (show n < 2 ^ 128 by omega)
  exact eq_block_of_be (by rw [be_gf128Double_of_lt (by rwa [hn]), hn])

theorem gf128Double_block_of_ge {n : Nat} (h : 2 ^ 127 ≤ n) (hlt : n < 2 ^ 128) :
    gf128Double (block n) = block ((2 * n % 2 ^ 128) ^^^ 0x87) :=
  eq_block_of_be (by rw [be_gf128Double_of_ge (by rwa [be_block hlt]), be_block hlt])

/-- Settles O59: on both sides of `2 ^ 127`; the listed values follow from the arithmetic form. -/
theorem doublingIsAShiftWithReduction : Obligations.DoublingIsAShiftWithReduction :=
  ⟨fun _ => ⟨be_gf128Double_of_lt, be_gf128Double_of_ge⟩,
    gf128Double_block_of_lt (n := 0) (by decide),
    gf128Double_block_of_lt (n := 1) (by decide),
    gf128Double_block_of_lt (n := 0x40000000000000000000000000000000) (by decide),
    gf128Double_block_of_ge (n := 0x80000000000000000000000000000000) (by decide) (by decide),
    gf128Double_block_of_ge (n := 0xffffffffffffffffffffffffffffffff) (by decide) (by decide),
    gf128Double_block_of_lt (n := 0x0123456789abcdeffedcba9876543210) (by decide)⟩

/-! ### The chain of the tag -/

/-- The pieces of an aligned message by their places. -/
theorem chunks_eq_slices {n : Nat} (hn : 0 < n) {m : List Byte} (hm : m.length % n = 0) :
    chunks n m = (List.range (m.length / n)).map fun k => slice m (n * k) n := by
  refine List.ext_getElem (by simp [chunks_length hn hm]) fun k hk _ => ?_
  have hpiece := slice_flatten hk (chunks_mem_length hn hm)
  rw [chunks_flatten hn] at hpiece
  simp [hpiece]

/-- What Mac works on: an aligned message under the first subkey, any other padded, under the second
(46_mode_mac.md R272). -/
def macPlain (m : List Byte) : List Byte := if m.length % 16 = 0 then m else pad m 16

/-- The subkey of a message: the first for an aligned one, else the second (46_mode_mac.md R272). -/
def macSubkey (m : List Byte) (sk1 sk2 : Block) : Block := if m.length % 16 = 0 then sk1 else sk2

/-- The last step of the tag over whole blocks; `macFull_eq` ties it to `macFull`. -/
def macLast (E : Block → Block) (p : List Byte) (k : Block) : Block :=
  E (xorBlock (xorBlock (macAccumulate E (chunks 16 p).dropLast) k)
    (blockOf ((chunks 16 p).getLastD [])))

theorem macFull_eq (E : Block → Block) (m : List Byte) (sk1 sk2 : Block) :
    macFull E m sk1 sk2 = macLast E (macPlain m) (macSubkey m sk1 sk2) := by
  by_cases h : m.length % 16 = 0 <;> simp [macFull, macLast, macPlain, macSubkey, h]

/-- The accumulator runs over the blocks before the last, from the zero block. -/
theorem macLast_chain (E : Block → Block) {p : List Byte} {q : Nat} (hp : p.length = 16 * (q + 1))
    (k : Block) :
    ∃ acc : Nat → Block, acc 0 = zeroBlock ∧
      (∀ n, acc (n + 1) = E (xorBlock (acc n) (blockOf (slice p (16 * n) 16)))) ∧
      macLast E p k = E (xorBlock (xorBlock (acc q) k) (blockOf (slice p (16 * q) 16))) := by
  have hchunks : chunks 16 p =
      (List.range q).map (fun n => slice p (16 * n) 16) ++ [slice p (16 * q) 16] := by
    rw [chunks_eq_slices (by decide) (by omega), show p.length / 16 = q + 1 by omega,
      List.range_succ, List.map_append, List.map_singleton]
  obtain ⟨acc, hstart, hround, hend⟩ := exists_blocks_of_rounds
    (fun a b => E (xorBlock a b)) (fun n => blockOf (slice p (16 * n) 16)) zeroBlock q
  refine ⟨acc, hstart, hround, ?_⟩
  rw [macLast, hchunks, List.dropLast_concat, List.getLastD_concat, macAccumulate, List.foldl_map,
    ← hend, List.foldl_map]

/-- What Mac works on is whole blocks, at least one if the message is not empty. -/
theorem exists_macPlain_length {m : List Byte} (h : 0 < m.length) :
    ∃ q, (macPlain m).length = 16 * (q + 1) := by
  by_cases hm : m.length % 16 = 0
  · exact ⟨m.length / 16 - 1, by rw [macPlain, if_pos hm]; omega⟩
  · exact ⟨m.length / 16, by rw [macPlain, if_neg hm, pad_length_eq_mul (by decide)]⟩

/-! ### The command -/

theorem modeEncrypt_of_mac {s : State} (h : s.mode = .mac) :
    modeEncrypt s = (macTag (encBlock s.mrk) s.message s.sk1 s.sk2 s.taglen, s.gamma) := by
  simp [modeEncrypt, h]

theorem gammaReady_of_mac {s : State} (hm : s.mode = .mac) : gammaReady s := by
  simp [gammaReady, hm]

/-- Mac refuses the empty message (46_mode_mac.md R272, 60_exceptions.md R327). -/
theorem exec_menc_mac_empty {s : State} (h : inMode s .mac) (h0 : s.ilen = 0) :
    exec .menc s = .next (s.raise .refused) := by
  obtain ⟨hs, hi, hm⟩ := h
  exact exec_raises hs (by simp [checksOf, needInstance, hi, gammaChecks, encryptChecks, hm, h0])

/-- On any other message `MENC` writes the tag and nothing else. -/
theorem exec_menc_mac {s : State} (h : inMode s .mac) (hpos : 0 < s.ilen) :
    exec .menc s =
      .next (s.output (macTag (encBlock s.mrk) s.message s.sk1 s.sk2 s.taglen)) := by
  obtain ⟨hs, hi, hm⟩ := h
  rw [exec_menc_performs hs hi (gammaReady_of_mac hm) fun _ => hpos, modeEncrypt_of_mac hm]
  rfl

/-- Settles O49: the empty message fails the one check; on any other the output is the truncated
`macFull`, whose accumulator runs over the blocks of `macPlain`. -/
theorem macTagOfTheMessage : Obligations.MacTagOfTheMessage := by
  rintro s h ⟨-, -, -, htag⟩
  refine ⟨exec_menc_mac_empty h, fun hpos => ?_⟩
  have hexec := exec_menc_mac h hpos
  rw [← message_length] at hpos ⊢
  obtain ⟨q, hlen⟩ := exists_macPlain_length hpos
  obtain ⟨acc, hstart, hround, hlast⟩ :=
    macLast_chain (encBlock s.mrk) hlen (macSubkey s.message s.sk1 s.sk2)
  refine ⟨_, macPlain s.message, q, macSubkey s.message s.sk1 s.sk2, hexec, rfl, ?_,
    fun haligned => ⟨if_pos haligned, if_pos haligned⟩,
    fun hragged => ⟨if_neg hragged, if_neg hragged⟩, hlen, acc, hstart, fun n _ => hround n, ?_⟩
  · rw [State.olen, State.output_obuf, Memory.ofBytes_length, macTag_length _ _ _ _ htag]
  · rw [State.output_obuf, Memory.ofBytes_bytes, macTag, macFull_eq, hlast]

end Sys2Proof.Machine
end

section
/-!
PROOFS. The data movement and system commands (47_host_data_and_system.md): what each leaves when its
checks pass, and from that the bytes the host gets back of those it loaded. The four store commands have
one effect, a new output buffer, so that what they store is said once (`exists_stored`).
-/

namespace Sys2Proof.Machine

open Sys2Proof.Spec

/-- Settles O37: it has no check and its effect is the state itself, on a faulted device too. -/
theorem nopChangesNothing : Obligations.NopChangesNothing := by
  intro s
  by_cases hs : s.fault = none
  · exact exec_performs hs rfl
  · exact (exec_nop s).trans (command_faulted hs [] s)

/-! ### Loading -/

/-- A string of the right length fills a register byte for byte. -/
theorem fixedOf_getElem? {n : Nat} {l : List Byte} (h : l.length = n) (i : Fin n) :
    some (fixedOf n l)[i] = l[i.val]? := by
  calc some (fixedOf n l)[i] = (fixedOf n l).toList[i.val]? := by simp
    _ = l[i.val]? := by rw [fixedOf_toList h]

theorem exec_ldk_performs {s : State} (hs : idle s) (hlen : s.ilen = 32) :
    exec .ldk s = .next (s.loadKey (fixedOf 32 s.message)) :=
  exec_performs hs (by simp [checksOf, needLength, hlen])

theorem exec_ldb_performs {s : State} (hs : idle s) (hlen : s.ilen = 16) :
    exec .ldb s = .next (s.loadBlk (blockOf s.message)) :=
  exec_performs hs (by simp [checksOf, needLength, hlen])

/-- Settles O38: the check passes, and the 32 bytes of the input fill the key. -/
theorem loadKeyCommand : Obligations.LoadKeyCommand := fun s hs hlen =>
  ⟨_, exec_ldk_performs hs hlen, rfl, fixedOf_getElem? ((message_length s).trans hlen)⟩

/-- Settles O39: the check passes, and the 16 bytes of the input fill the block. -/
theorem loadBlockCommand : Obligations.LoadBlockCommand := fun s hs hlen =>
  ⟨_, exec_ldb_performs hs hlen, rfl, fixedOf_getElem? ((message_length s).trans hlen)⟩

/-! ### Storing -/

/-- A command whose effect is a new output stores exactly its bytes and changes nothing else. -/
theorem exists_stored {i : Instr} {s : State} {m : List Byte} {n : Nat}
    (h : exec i s = .next (s.output m)) (hn : m.length = n) :
    ∃ t, exec i s = .next t ∧ t = { s with obuf := t.obuf } ∧ t.olen = n ∧
      ∀ a, t.obuf.read a = m[a]? :=
  ⟨s.output m, h, rfl, (Memory.ofBytes_length m).trans hn, Memory.ofBytes_read m⟩

theorem exec_stb_performs {s : State} (hs : idle s) (hb : s.blkv = true) :
    exec .stb s = .next (s.output s.blk.toList) :=
  exec_performs hs (by simp [checksOf, needBlk, hb])

/-- The ten operands `STRK` takes, one for each round key. -/
theorem exec_strk_performs {s : State} (hs : idle s) (hr : s.rkv = true) {k : Nat} (hk : k < 10) :
    exec (.strk (BitVec.ofNat 8 (k + 1))) s = .next (s.output s.rk[k].toList) := by
  have hnum : (BitVec.ofNat 8 (k + 1)).toNat = k + 1 := by
    rw [BitVec.toNat_ofNat, Nat.mod_eq_of_lt (by omega)]
  have hwf : (Instr.strk (BitVec.ofNat 8 (k + 1))).wf = true := by
    simp only [Instr.wf, hnum, decide_eq_true_eq]
    omega
  rw [exec_performs hs (by simp [checksOf, needOperands, needRoundKeys, hwf, hr]), effectOf, hnum,
    roundKey_succ s.rk hk]

theorem exec_stg_performs {s : State} (hs : idle s) (hi : s.miv = true) :
    exec .stg s = .next (s.output s.gamma) :=
  exec_performs hs (by simp [checksOf, needInstance, hi])

theorem exec_stsk_performs {s : State} (h : inMode s .mac) {j : BitVec 8}
    (hj : (Instr.stsk j).wf = true) : exec (.stsk j) s = .next (s.output (subkey s j).toList) := by
  obtain ⟨hs, hi, hm⟩ := h
  exact exec_performs hs (by simp [checksOf, needOperands, needInstance, hj, hi, hm])

/-- Settles O40: with its register valid each command passes its checks and has the register's bytes as
its output. -/
theorem storeBlockAndRoundKeyCommands : Obligations.StoreBlockAndRoundKeyCommands := fun s hs =>
  ⟨fun hb => exists_stored (exec_stb_performs hs hb) s.blk.length_toList,
    fun hr i => exists_stored (exec_strk_performs hs hr i.isLt) s.rk[i].length_toList⟩

/-- Settles O41: `STG` asks for an instance, `STSK` for one in Mac; the output is the register's bytes. -/
theorem storeGammaAndSubkeyCommands : Obligations.StoreGammaAndSubkeyCommands := fun s hs hi =>
  ⟨exists_stored (exec_stg_performs hs hi) rfl, fun hm =>
    ⟨exists_stored (exec_stsk_performs ⟨hs, hi, hm⟩ rfl) s.sk1.length_toList,
      exists_stored (exec_stsk_performs ⟨hs, hi, hm⟩ rfl) s.sk2.length_toList⟩⟩

/-! ### What the host loads it gets back -/

theorem exec_kexp_performs {s : State} (hs : idle s) (hk : s.keyv = true) :
    exec .kexp s = .next (s.setRoundKeys (keyExpand s.mkey)) :=
  exec_performs hs (by simp [checksOf, needKey, hk])

/-- `STRK 1` and `STRK 2` in a row complete and return the first two round keys. -/
theorem exists_stored_roundKeys {s : State} (hs : idle s) (hr : s.rkv = true) :
    ∃ t u, exec (.strk 1) s = .next t ∧ exec (.strk 2) t = .next u ∧ u.fault = none ∧
      t.obuf.bytes ++ u.obuf.bytes = s.rk[0].toList ++ s.rk[1].toList := by
  refine ⟨s.output s.rk[0].toList, (s.output s.rk[0].toList).output s.rk[1].toList,
    exec_strk_performs hs hr (k := 0) (by decide),
    exec_strk_performs (s := s.output s.rk[0].toList) hs hr (k := 1) (by decide), hs, ?_⟩
  rw [State.output_obuf, State.output_obuf, Memory.ofBytes_bytes, Memory.ofBytes_bytes]

/-- `STB` after `LDB` returns the sixteen bytes of the input (47_host_data_and_system.md R292, R293). -/
theorem loadedBlock_comes_back {s : State} (hs : idle s) (hlen : s.ilen = 16) :
    ∃ t u, exec .ldb s = .next t ∧ exec .stb t = .next u ∧
      u = { s with blk := t.blk, blkv := true, obuf := u.obuf } ∧ u.olen = 16 ∧
      ∀ a, u.obuf.read a = s.message[a]? := by
  have hblk : (blockOf s.message).toList = s.message :=
    blockOf_toList ((message_length s).trans hlen)
  obtain ⟨u, hstb, hframe, holen, hread⟩ := exists_stored
    (exec_stb_performs (s := s.loadBlk (blockOf s.message)) hs rfl) Vector.length_toList
  exact ⟨_, u, exec_ldb_performs hs hlen, hstb, hframe, holen, fun a => by
    rw [hread, State.loadBlk_blk, hblk]⟩

/-- The round keys 1 and 2 that `KEXP` makes after `LDK` are the 32 bytes of the input
(47_host_data_and_system.md R291, R294, 41_key_schedule.md R153). -/
theorem loadedKey_comes_back {s : State} (hs : idle s) (hlen : s.ilen = 32) :
    ∃ t u v w, exec .ldk s = .next t ∧ exec .kexp t = .next u ∧ exec (.strk 1) u = .next v ∧
      exec (.strk 2) v = .next w ∧ w.fault = none ∧ v.obuf.bytes ++ w.obuf.bytes = s.message := by
  have hkey : (fixedOf 32 s.message).toList = s.message :=
    fixedOf_toList ((message_length s).trans hlen)
  have hkexp := exec_kexp_performs (s := s.loadKey (fixedOf 32 s.message)) hs rfl
  obtain ⟨v, w, hstrk1, hstrk2, hw, hbytes⟩ := exists_stored_roundKeys
    (s := (s.loadKey (fixedOf 32 s.message)).setRoundKeys (keyExpand (fixedOf 32 s.message))) hs rfl
  exact ⟨_, _, v, w, exec_ldk_performs hs hlen, hkexp, hstrk1, hstrk2, hw,
    hbytes.trans ((keyExpand_halves _).trans hkey)⟩

/-- Settles O60: the input fills the block, which `STB` stores; it fills the key, whose halves `KEXP`
makes the round keys 1 and 2. -/
theorem loadedBytesComeBackWhole : Obligations.LoadedBytesComeBackWhole :=
  fun _ hs => ⟨loadedBlock_comes_back hs, loadedKey_comes_back hs⟩

end Sys2Proof.Machine
end

section
/-!
PROOFS. Faults and reset (60_exceptions.md, 70_reset_and_hazards.md): what a step can do to the latch,
said once in `step_latch`; the steps of a faulted device; and the commands whose checks fail with
`NotReady`, `ContractViolation` or `UnsupportedOperation`.
-/

namespace Sys2Proof.Machine

open Sys2Proof.Spec

/-! ### The latch -/

/-- A command whose effect leaves the latch alone leaves it as it was, or had none and raises one. -/
theorem command_latch {s t e : State} {cs : List Check} (he : e.fault = s.fault)
    (h : command s cs e = .next t) : t.fault = s.fault ∨ (idle s ∧ ∃ f, t = s.raise f) := by
  rcases command_cases h with ⟨_, rfl⟩ | ⟨hs, f, _, rfl⟩ | ⟨_, _, rfl⟩
  · exact .inl rfl
  · exact .inr ⟨hs, f, rfl⟩
  · exact .inl he

theorem exec_latch {i : Instr} {s t : State} (h : exec i s = .next t) :
    t.fault = s.fault ∨ (idle s ∧ ∃ f, t = s.raise f) :=
  command_latch (effectOf_fault i s) (exec_eq_command i s ▸ h)

theorem hostLoad_latch {m : List Byte} {s t : State} (h : hostLoad m s = .next t) :
    t.fault = s.fault ∨ (idle s ∧ ∃ f, t = s.raise f) :=
  command_latch (State.setInput_fault s m) h

theorem hostCmd_latch {w : Word} {s t : State} (h : hostCmd w s = .next t) :
    t.fault = s.fault ∨ (idle s ∧ ∃ f, t = s.raise f) := by
  rcases hostCmd_cases h with ⟨_, rfl⟩ | ⟨hs, _, rfl⟩ | ⟨_, i, _, hx⟩
  · exact .inl rfl
  · exact .inr ⟨hs, _, rfl⟩
  · exact exec_latch hx

/-- All that a step can do to the latch: leave it, clear it by reset, or set it where it was clear, and
then it changes nothing else but that the event is used up (60_exceptions.md R330 to R332). -/
theorem step_latch {s t : State} (h : step s = .next t) :
    t.fault = s.fault ∨ (resets s ∧ t.fault = none) ∨
      (idle s ∧ ∃ f, t = (s.setInputs s.inputs.tail).raise f) := by
  rcases step_cases h with ⟨_, rfl⟩ |
    ⟨es, ⟨hi, rfl⟩ | ⟨m, hi, hm⟩ | ⟨w, hi, hw⟩ | ⟨_, rfl⟩ | ⟨c, _, rfl⟩⟩
  case inl => exact .inl rfl
  case inr.inl => exact .inr (.inl ⟨by simp [resets, hi], rfl⟩)
  case inr.inr.inl =>
    rw [hi]
    exact (hostLoad_latch hm).imp_right .inr
  case inr.inr.inr.inl =>
    rw [hi]
    exact (hostCmd_latch hw).imp_right .inr
  case inr.inr.inr.inr.inl => exact .inl rfl
  case inr.inr.inr.inr.inr => exact .inl rfl

/-- A fault has a number of its own, apart from the 0 of no fault (60_exceptions.md R320). -/
theorem faultNumber_pos (f : FaultCode) : 1 ≤ faultNumber (some f) := by
  cases f <;> decide

theorem faultCode_toNat (f : FaultCode) : f.code.toNat = faultNumber (some f) :=
  faultField_toNat (some f)

/-- Settles O9: of the three things a step does to the latch only the third sets it. -/
theorem raisedFaultChangesNothingElse : Obligations.RaisedFaultChangesNothingElse := by
  intro s t f h hs ht
  have hframe : t = (s.setInputs s.inputs.tail).raise f := by
    rcases step_latch h with hkeep | ⟨_, hclear⟩ | ⟨_, g, rfl⟩
    · cases ht.symm.trans (hkeep.trans hs)
    · cases ht.symm.trans hclear
    · cases ht
      rfl
  have hfield : (csrWord t .status).extractLsb' 0 4 = f.code :=
    (statusWord_fault t).trans (congrArg faultField ht)
  have hnum := faultCode_toNat f
  exact ⟨hframe, hfield, hnum, hnum ▸ faultNumber_pos f, hnum ▸ faultNumber_le (some f)⟩

/-- Settles O10: a latch that is set is neither cleared without reset nor set again. -/
theorem latchedFaultStaysUntilReset : Obligations.LatchedFaultStaysUntilReset := by
  intro s t f h hf hreset
  rcases step_latch h with hkeep | ⟨hr, _⟩ | ⟨hidle, _⟩
  · exact hkeep.trans hf
  · exact absurd hr hreset
  · cases hf.symm.trans hidle

/-! ### Illegal words and the faulted device -/

/-- A word that is not legal does not decode (30_encoding.md R97). -/
theorem decode_error_of_not_legalWord {w : Word} (h : ¬ legalWord w) : ∃ e, decode w = .error e := by
  cases hd : decode w with
  | error e => exact ⟨e, rfl⟩
  | ok i => exact absurd (legalWord_of_decode hd) h

/-- Settles O7: the word does not decode, so the fault is raised on the state without the event. -/
theorem illegalWordLatchesIllegalCommand : Obligations.IllegalWordLatchesIllegalCommand := by
  intro s w es h hs hw
  obtain ⟨e, hd⟩ := decode_error_of_not_legalWord hw
  rw [step_cmd h, hostCmd_idle (s := s.setInputs es) hs, hd]
  rfl

/-- Settles O8: the first two operations ask whether a fault is latched, the other two do not. -/
theorem faultedDeviceIgnoresLoadsAndCommands :
    Obligations.FaultedDeviceIgnoresLoadsAndCommands := by
  intro s op es h hf
  cases op with
  | load m => exact (step_load h).trans (hostLoad_faulted (s := s.setInputs es) hf m)
  | cmd w => exact (step_cmd h).trans (hostCmd_faulted (s := s.setInputs es) hf w)
  | store => exact step_store h
  | csrRead c => exact step_csrRead h

/-! ### `NotReady` -/

theorem checksOf_without_key {s : State} (hk : s.keyv = false) :
    firstFailure (checksOf .kexp s) = some .notReady := by
  simp [checksOf, needKey, hk]

/-- The four commands that read the round keys look at their validity bit before any other, once the
operands are legal. -/
theorem checksOf_without_roundKeys {s : State} {i : Instr} (hr : s.rkv = false) (hwf : i.wf = true)
    (hi : i = .encb ∨ i = .decb ∨ (∃ k, i = .strk k) ∨ ∃ m n, i = .minit m n) :
    firstFailure (checksOf i s) = some .notReady := by
  rcases hi with rfl | rfl | ⟨k, rfl⟩ | ⟨m, n, rfl⟩ <;>
    simp [checksOf, needOperands, needRoundKeys, hwf, hr]

/-- `ENCB` and `DECB` check the round keys before the block, and either failure is `NotReady`. -/
theorem checksOf_without_block {s : State} {i : Instr} (hb : s.blkv = false)
    (hi : i = .stb ∨ i = .sub ∨ i = .isub ∨ i = .lin ∨ i = .ilin ∨ i = .encb ∨ i = .decb) :
    firstFailure (checksOf i s) = some .notReady := by
  rcases hi with rfl | rfl | rfl | rfl | rfl | rfl | rfl <;>
    simp [checksOf, needRoundKeys, needBlk, hb]

/-- The commands of a mode instance look for it before they look at its mode, its gamma or the input,
once the operands are legal. -/
theorem checksOf_without_instance {s : State} {i : Instr} (hm : s.miv = false) (hwf : i.wf = true)
    (hi : i = .mcfg ∨ i = .menc ∨ i = .mdec ∨ i = .stg ∨ ∃ j, i = .stsk j) :
    firstFailure (checksOf i s) = some .notReady := by
  rcases hi with rfl | rfl | rfl | rfl | ⟨j, rfl⟩ <;>
    simp [checksOf, needOperands, needInstance, hwf, hm]

/-- Settles O11: with the validity bit 0, the first check that fails is a `NotReady` one. -/
theorem unwrittenRegistersRaiseNotReady : Obligations.UnwrittenRegistersRaiseNotReady := by
  intro s i hs hwf h
  have hfail : firstFailure (checksOf i s) = some .notReady := by
    rcases h with ⟨hk, rfl⟩ | ⟨hr, hi⟩ | ⟨hb, hi⟩ | ⟨hm, hi⟩
    · exact checksOf_without_key hk
    · exact checksOf_without_roundKeys hr hwf hi
    · exact checksOf_without_block hb hi
    · exact checksOf_without_instance hm hwf hi
  exact exec_raises hs hfail

/-! ### `ContractViolation` -/

/-- When the first checks pass the rest decide. -/
theorem firstFailure_append_of_none {cs : List Check} (ds : List Check)
    (h : firstFailure cs = none) : firstFailure (cs ++ ds) = firstFailure ds := by
  induction cs with
  | nil => rfl
  | cons c cs ih =>
    obtain ⟨hc, hcs⟩ := firstFailure_cons_eq_none.mp h
    simpa [hc] using ih hcs

/-- The one way for `MDEC` to fail its message check: a ragged message in a mode that takes whole
blocks or segments (43_mode_common.md R188). -/
theorem decryptChecks_contractViolation {s : State}
    (h : ((s.mode = .ecb ∨ s.mode = .cbc) ∧ s.ilen % 16 ≠ 0) ∨
      (s.mode = .cfb ∧ s.ilen % s.seg ≠ 0)) :
    firstFailure (decryptChecks s) = some .contractViolation := by
  rcases h with ⟨hm | hm, hlen⟩ | ⟨hm, hlen⟩ <;> simp [decryptChecks, hm, hlen]

/-- With an instance that decrypts and a gamma that is ready, `MDEC` is left with its message check. -/
theorem mdecChecks_eq_decryptChecks {s : State} (hi : s.miv = true) (hmac : s.mode ≠ .mac)
    (hg : gammaReady s) : firstFailure (checksOf .mdec s) = firstFailure (decryptChecks s) := by
  have hrest := firstFailure_append_of_none (decryptChecks s) (gammaChecks_pass.mpr hg)
  simpa [checksOf, needInstance, hi, hmac] using hrest

/-- Settles O13: the length is the only check of `LDK` and `LDB`, and the last one of `MDEC`. -/
theorem inputLengthFaults : Obligations.InputLengthFaults := by
  intro s hs
  refine ⟨fun hlen => ?ldk, fun hlen => ?ldb, fun hi hg h => ?mdec⟩
  case ldk => exact exec_raises hs (by simp [checksOf, needLength, hlen])
  case ldb => exact exec_raises hs (by simp [checksOf, needLength, hlen])
  case mdec =>
    have hmac : s.mode ≠ .mac := by
      rcases h with ⟨hm | hm, _⟩ | ⟨hm, _⟩ <;> simp [hm]
    exact exec_raises hs
      ((mdecChecks_eq_decryptChecks hi hmac hg).trans (decryptChecks_contractViolation h))

/-! ### `UnsupportedOperation` -/

/-- Settles O14: with an instance, both commands check its mode next. -/
theorem unsupportedOperationsAsListed : Obligations.UnsupportedOperationsAsListed := by
  intro s hs hi
  refine ⟨fun hm => ?mdec, fun hm j hj => ?stsk⟩
  case mdec => exact exec_raises hs (by simp [checksOf, needInstance, hi, hm])
  case stsk => exact exec_raises hs (by simp [checksOf, needOperands, needInstance, hi, hm, hj])

/-! ### Reset -/

/-- The reset event puts the device in its reset state and leaves the host's side to the host. -/
theorem step_reset {s : State} {es : List Event} (h : s.inputs = .reset :: es) :
    step s = .next (s.setInputs es).resetDevice :=
  step_cons h

/-- No validity bit is set and no fault latched (10_state.md R34, R42). -/
theorem statusWord_resetDevice (s : State) : statusWord s.resetDevice = 0 := by
  simp [statusWord, faultField]

/-- Mode Ecb with the default sizes (10_state.md R35, R42). -/
theorem modecfgWord_resetDevice (s : State) : modecfgWord s.resetDevice = 0x00081000 := by
  simp [modecfgWord, Mode.code]

/-- Settles O20: the reset state field by field, and the status registers as views of it. -/
theorem resetGivesTheStatedValues : Obligations.ResetGivesTheStatedValues := by
  intro s es h
  refine ⟨(s.setInputs es).resetDevice, step_reset h, ?_⟩
  simp [State.ilen, State.olen, State.glen, csrWord, statusWord_resetDevice, modecfgWord_resetDevice,
    Memory.bytes]

end Sys2Proof.Machine
end
